-- ==== Sys2Proof/Word.lean ====
section
/-! DEFINITION. The widths of the block (R11, R110): names only. -/

namespace Sys2Proof

/-- Every data value a port operation moves, and the OAM pointer (R11). -/
abbrev Byte := BitVec 8

/-- An operation word `SPACE RW SEL DATA` (R110, R111). -/
abbrev OpWord := BitVec 13

/-- An address of the PPU address space (R70). -/
abbrev PpuAddr := BitVec 14

/-- An address of the external CPU address space (R72). -/
abbrev CpuAddr := BitVec 16

/-- A physical nametable offset, 0x000 to 0x7FF (R84). -/
abbrev NtOffset := BitVec 11

end Sys2Proof
end

