-- ==== Sys2Proof/Syntax.lean ====
section
/-! DEFINITION. The operations of the block: one constructor per row of spec/opcode_table.json (R10, R115). -/

namespace Sys2Proof

/-- The thirteen operations of the operation word (R115). `d`, `p`, `f` are the DATA field of the word (R112 to R114). -/
inductive Instr where
  | wCtrl (d : Byte)
  | wMask (d : Byte)
  | wStatus (d : Byte)
  | wOamAddr (d : Byte)
  | wOamData (d : Byte)
  | wScroll (d : Byte)
  | wAddr (d : Byte)
  | wData (d : Byte)
  | rStatus
  | rOamData
  | rData
  | oamDma (p : Byte)
  | envStat (f : Byte)
  deriving DecidableEq, Repr

/-- The agents that act on the block (R270). The rendering collaborator issues no operation: it evaluates queries. -/
inductive Agent where
  | cpuPort
  | timingCollaborator
  | renderingCollaborator
  deriving DecidableEq, Repr

end Sys2Proof
end

