-- ==== Sys2Proof/WellFormed.lean ====
section
/-! DEFINITION. Which terms of `Instr` are operations of the block. -/

namespace Sys2Proof

/-- The operand of ENVSTAT has `f[4:0] = 0` (R114, R123). -/
abbrev envOperandLegal (f : Byte) : Prop := f.extractLsb' 0 5 = 0#5

/-- Every operand of every operation is legal, but for ENVSTAT's low bits (R112 to R114, R123). -/
def wellFormed (i : Instr) : Bool :=
  match i with
  | .wCtrl _ => true
  | .wMask _ => true
  | .wStatus _ => true
  | .wOamAddr _ => true
  | .wOamData _ => true
  | .wScroll _ => true
  | .wAddr _ => true
  | .wData _ => true
  | .rStatus => true
  | .rOamData => true
  | .rData => true
  | .oamDma _ => true
  | .envStat f => decide (envOperandLegal f)

/-- The term is an operation of the block. -/
abbrev WellFormed (i : Instr) : Prop := wellFormed i = true

end Sys2Proof
end

