-- ==== Sys2Proof/Decode.lean ====
section
/-! DEFINITION. The operation word: the decoder from the rows of the opcode table, and the encoder from the port map. -/

namespace Sys2Proof

/-- Why a word is no operation: it is reserved (R120, R121, R123). -/
inductive DecodeError where
  | reservedEncoding (w : OpWord)
  deriving DecidableEq, Repr

/-- One row of spec/opcode_table.json: the words `w` with `w & mask = pattern`, and the operation they select. -/
structure OpRow where
  mnemonic : String
  mask : OpWord
  pattern : OpWord
  make : Byte → Instr

/-- The DATA field `w[7:0]`, the operand of every write (R111, R112). -/
def dataField (w : OpWord) : Byte := w.extractLsb' 0 8

/-- Does the word belong to the row? -/
def OpRow.admits (r : OpRow) (w : OpWord) : Bool := w &&& r.mask == r.pattern

/-- The complete opcode map (R115), `match` and `mask` as spec/opcode_table.json gives them. A read ignores DATA (R116). -/
def opcodeTable : List OpRow := [
  ⟨"W_CTRL", 0x1F00#13, 0x0000#13, .wCtrl⟩,
  ⟨"W_MASK", 0x1F00#13, 0x0100#13, .wMask⟩,
  ⟨"W_STATUS", 0x1F00#13, 0x0200#13, .wStatus⟩,
  ⟨"W_OAMADDR", 0x1F00#13, 0x0300#13, .wOamAddr⟩,
  ⟨"W_OAMDATA", 0x1F00#13, 0x0400#13, .wOamData⟩,
  ⟨"W_SCROLL", 0x1F00#13, 0x0500#13, .wScroll⟩,
  ⟨"W_ADDR", 0x1F00#13, 0x0600#13, .wAddr⟩,
  ⟨"W_DATA", 0x1F00#13, 0x0700#13, .wData⟩,
  ⟨"R_STATUS", 0x1F00#13, 0x0A00#13, fun _ => .rStatus⟩,
  ⟨"R_OAMDATA", 0x1F00#13, 0x0C00#13, fun _ => .rOamData⟩,
  ⟨"R_DATA", 0x1F00#13, 0x0F00#13, fun _ => .rData⟩,
  ⟨"OAMDMA", 0x1F00#13, 0x1000#13, .oamDma⟩,
  ⟨"ENVSTAT", 0x1F1F#13, 0x1100#13, .envStat⟩]

/-- Decoding is total: the row the word belongs to, or the word is reserved (R117). -/
def decode (w : OpWord) : Except DecodeError Instr :=
  match opcodeTable.find? (fun r => r.admits w) with
  | some r => .ok (r.make (dataField w))
  | none => .error (.reservedEncoding w)

/-- An operation word from its fields (R111): SPACE, RW, SEL and DATA, most significant first. -/
def opWord (space rw : BitVec 1) (sel : BitVec 3) (data : Byte) : OpWord := space ++ rw ++ sel ++ data

/-- The word of an operation, by the port map of R115; a read's DATA is written 0 (R116). -/
def encode (i : Instr) : OpWord :=
  match i with
  | .wCtrl d => opWord 0 0 0 d
  | .wMask d => opWord 0 0 1 d
  | .wStatus d => opWord 0 0 2 d
  | .wOamAddr d => opWord 0 0 3 d
  | .wOamData d => opWord 0 0 4 d
  | .wScroll d => opWord 0 0 5 d
  | .wAddr d => opWord 0 0 6 d
  | .wData d => opWord 0 0 7 d
  | .rStatus => opWord 0 1 2 0
  | .rOamData => opWord 0 1 4 0
  | .rData => opWord 0 1 7 0
  | .oamDma p => opWord 1 0 0 p
  | .envStat f => opWord 1 0 1 f

/-- The row's name in spec/opcode_table.json. -/
def mnemonicOf (i : Instr) : String :=
  match i with
  | .wCtrl _ => "W_CTRL"
  | .wMask _ => "W_MASK"
  | .wStatus _ => "W_STATUS"
  | .wOamAddr _ => "W_OAMADDR"
  | .wOamData _ => "W_OAMDATA"
  | .wScroll _ => "W_SCROLL"
  | .wAddr _ => "W_ADDR"
  | .wData _ => "W_DATA"
  | .rStatus => "R_STATUS"
  | .rOamData => "R_OAMDATA"
  | .rData => "R_DATA"
  | .oamDma _ => "OAMDMA"
  | .envStat _ => "ENVSTAT"

/-- Which agent issues the operation: the CPU port issues all but ENVSTAT (R270). The block does not check it. -/
def agentOf (i : Instr) : Agent :=
  match i with
  | .envStat _ => .timingCollaborator
  | .wCtrl _ | .wMask _ | .wStatus _ | .wOamAddr _ | .wOamData _ | .wScroll _ | .wAddr _ | .wData _ => .cpuPort
  | .rStatus | .rOamData | .rData | .oamDma _ => .cpuPort

/-- The operation word in the low `nbits` bits of `w`: none where a bit above the thirteenth is set, for there is one
format of one length (R110; log 10). -/
def tableWord (nbits w : Nat) : Option OpWord :=
  if w % 2 ^ nbits < 0x2000 then some (BitVec.ofNat 13 (w % 2 ^ nbits)) else none

/-- What the decoder reads from an instruction whose bits are `w`. A word of the block is one 13-bit value, not bytes in
a store: nothing is laid out (R98, R110; log 10). -/
def decodeTableWord (nbits w : Nat) : Option Instr :=
  match tableWord nbits w with
  | some v => (match decode v with | .ok i => some i | .error _ => none)
  | none => none

end Sys2Proof
end

