-- ==== Sys2Proof/Config.lean ====
section
/-! DEFINITION. The construction parameters (R13 to R17) and the free values of the model. -/

namespace Sys2Proof

/-- Parameter MIRROR_MODE: exactly these two values (R13). -/
inductive MirrorMode where
  | horizontal
  | vertical
  deriving DecidableEq, Repr

/-- The arguments and parameters of construction (R240). The draws (R16, R17) are arguments too: a claim about
`construct` is made for every value of them. -/
structure Params where
  /-- CHR, the pattern memory; CHR_SIZE is its length (R14). -/
  chr : List Byte
  /-- MIRROR_MODE (R13). -/
  mirrorMode : MirrorMode
  /-- CHR_WRITABLE (R15). -/
  chrWritable : Bool
  /-- INIT_RDBUF (R16). -/
  initRdbuf : Byte
  /-- INIT_NT (R17). -/
  initNt : Vector Byte 2048
  /-- INIT_PAL (R17). -/
  initPal : Vector Byte 32
  /-- INIT_OAM (R17). -/
  initOam : Vector Byte 256
  deriving DecidableEq, Repr

/-- FREE VALUE: the byte the DMA supplier answers at CPU address `a` in the `n`-th OAMDMA, where no premise fixes it
(R216, D17; log 1). It has no body: nothing can be proved of its value. -/
opaque Config.cpuByte (n : Nat) (a : CpuAddr) : Byte

/-- FREE VALUE: how many of the 256 copies of `OAMDMA p` are done when its supplier issues the word `w` and the operation
is refused; `n` OAMDMA operations have completed before (R255, U12; log 2). It has no body. -/
opaque Config.copiesDone (n : Nat) (p : Byte) (w : OpWord) : Fin 257

/-- MIRROR_MODE of the instance `State.reset` stands for. DESIGN CHOICE (log 5). -/
def Config.resetMirrorMode : MirrorMode := .horizontal

/-- CHR_WRITABLE of that instance. DESIGN CHOICE (log 5). -/
def Config.resetChrWritable : Bool := true

/-- CHR_SIZE of that instance: the whole data-port window 0x0000 to 0x1FFF. DESIGN CHOICE (log 5). -/
def Config.resetChrSize : Nat := 0x2000

/-- INIT_RDBUF of that instance. DESIGN CHOICE, unsafe (log 3). -/
def Config.resetRdbuf : Byte := 0

/-- The parameters of the instance `State.reset` stands for (log 3, log 4, log 5). -/
def Config.resetParams : Params where
  chr := List.replicate Config.resetChrSize 0
  mirrorMode := Config.resetMirrorMode
  chrWritable := Config.resetChrWritable
  initRdbuf := Config.resetRdbuf
  initNt := Vector.replicate 2048 0
  initPal := Vector.replicate 32 0
  initOam := Vector.replicate 256 0

end Sys2Proof
end

