-- ==== Sys2Proof/Machine/State.lean ====
section
/-! DEFINITION. The state vector (R30, R53), the reasons a step can stop (R252), and the state after construction (R56). -/

namespace Sys2Proof.Machine

/-- The write-position of a latch (R25): which slot the next write lands in. -/
inductive Toggle where
  | expectHigh
  | expectLow
  deriving DecidableEq, Repr

/-- The bytes of one store by index, in canonical form (`Memory.wf`). -/
abbrev Memory := List Host.Cell

/-- Why the block stops with a fault (R252). -/
inductive Fault where
  /-- Raised by R DATA, and by W DATA when CHR_WRITABLE, at an address `a` of the pattern range with `a >= CHR_SIZE`
  (R79, D13; code 1). Safe: the spec gives such an access no value. -/
  | patternOutOfRange (a : PpuAddr)
  deriving DecidableEq, Repr

/-- Why an operation or a construction is refused (R252). -/
inductive Refusal where
  /-- Raised by `exec` for an operation that has no meaning yet. Safe. No arm uses it. -/
  | notModelled (mnemonic : String)
  /-- Raised by the decoder for a reserved word (R120, R121, R123; code 16), and by the meaning of ENVSTAT for an operand
  no word decodes to. Safe: the word is outside the block's interface. -/
  | reservedEncoding (w : OpWord)
  /-- Raised by OAMDMA when its supplier issues an operation, of word `w`, while it answers (R217; code 17). Safe. That a
  reserved word `w` is answered so too is a DESIGN CHOICE (log 23). -/
  | reentrantAccess (w : OpWord)
  /-- Raised by construction with an empty pattern memory (R241; code 18). Safe: no machine comes to exist. -/
  | emptyPatternMemory
  deriving DecidableEq, Repr

/-- What the external DMA supplier does during one OAMDMA (R216, R217): the CPU bytes a premise fixes, by CPU address,
every other byte being a free value; and the word it issues re-entrantly, reserved or not, if it issues one (log 23). -/
structure Supplier where
  known : List Host.Cell
  reentrant : Option OpWord
  deriving DecidableEq, Repr

/-- One issued operation: its word, and the supplier's behaviour in case it is an OAMDMA (R95, R216). -/
structure Issue where
  word : OpWord
  supplier : Supplier
  deriving DecidableEq, Repr

/-- The state of the block (R30, R53), and at its end the model's own fields. -/
structure State where
  /-- CTRL (R34). -/
  ctrl : Byte
  /-- MASK (R36). -/
  mask : Byte
  /-- STATUS (R38). -/
  status : Byte
  /-- OAMADDR (R41). -/
  oamAddr : Byte
  /-- ADDR, one masked 14-bit value (R42, R167). -/
  addr : PpuAddr
  /-- ADDR_W (R43). -/
  addrW : Toggle
  /-- SCROLL[0] (R44). -/
  scroll0 : Byte
  /-- SCROLL[1] (R44). -/
  scroll1 : Byte
  /-- SCROLL_W (R45). -/
  scrollW : Toggle
  /-- RDBUF (R47). -/
  rdbuf : Byte
  /-- NT[0..2047] (R48). -/
  nt : Memory
  /-- PAL[0..31] (R49). -/
  pal : Memory
  /-- OAM[0..255] (R50). -/
  oam : Memory
  /-- CHR[0..CHR_SIZE-1] (R51). -/
  chr : Memory
  /-- CHR_SIZE (R14). -/
  chrSize : Nat
  /-- MIRROR_MODE, a constant of the instance (R30, R52). -/
  mirrorMode : MirrorMode
  /-- CHR_WRITABLE, a constant of the instance (R15, R30). -/
  chrWritable : Bool
  /-- FAULT (R53). -/
  faultMark : Option Fault
  /-- REFUSED (R53). -/
  refusedMark : Option Refusal
  /-- The model's own: the issued operations not yet taken, in the total order of R94 (log 7). -/
  pending : List Issue
  /-- The model's own: the supplier of the operation being taken (log 1, log 2). -/
  supplier : Supplier
  /-- The model's own: the result byte of the last operation taken, if it returned one (log 8). -/
  result : Option Byte
  /-- The model's own: how many OAMDMA operations have drawn free values (log 1). -/
  draws : Nat
  deriving DecidableEq, Repr

/-- The state right after construction (R56, R280), of the instance the log names (log 3, log 4, log 5). -/
def State.reset : State where
  ctrl := 0x00
  mask := 0x00
  status := 0x00
  oamAddr := 0x00
  addr := 0x0000
  addrW := .expectHigh
  scroll0 := 0x00
  scroll1 := 0x00
  scrollW := .expectHigh
  rdbuf := Config.resetRdbuf
  nt := []
  pal := []
  oam := []
  chr := []
  chrSize := Config.resetChrSize
  mirrorMode := Config.resetMirrorMode
  chrWritable := Config.resetChrWritable
  faultMark := none
  refusedMark := none
  pending := []
  supplier := ⟨[], none⟩
  result := none
  draws := 0

end Sys2Proof.Machine
end

