-- ==== Sys2Proof/Machine/Flags.lean ====
section
/-! DEFINITION. The flag registers CTRL, MASK and STATUS as BitFlagRegisters, their named accessors, the increment step
and the NMI request level (R130 to R134, R142, R235). -/

namespace Sys2Proof.Machine

/-- `get(r, i)` (R131). -/
def flagGet (r : Byte) (i : Fin 8) : Bool := r.getLsbD i.val

/-- `set(r, i, b)`: the other seven bits stay (R132). -/
def flagSet (r : Byte) (i : Fin 8) (b : Bool) : Byte :=
  if b then r ||| (1#8 <<< i.val) else r &&& ~~~(1#8 <<< i.val)

/-- `replace(r, v)`: all eight bits are written (R133). -/
def flagReplace (_r v : Byte) : Byte := v

/-- CTRL bit 7 (R34, R134). -/
def State.nmiEnabled (s : State) : Bool := flagGet s.ctrl 7
/-- MASK bit 3 (R36, R134). -/
def State.backgroundRenderEnabled (s : State) : Bool := flagGet s.mask 3
/-- MASK bit 4 (R36, R134). -/
def State.spriteRenderEnabled (s : State) : Bool := flagGet s.mask 4
/-- MASK bit 0, greyscale (R36). -/
def State.greyscale (s : State) : Bool := flagGet s.mask 0
/-- MASK bit 1, background in the leftmost 8 pixels (R36). -/
def State.backgroundLeft (s : State) : Bool := flagGet s.mask 1
/-- MASK bit 2, sprites in the leftmost 8 pixels (R36). -/
def State.spritesLeft (s : State) : Bool := flagGet s.mask 2
/-- MASK bits 5, 6, 7: emphasize red, green, blue (R36). -/
def State.emphasis (s : State) : Bool × Bool × Bool := (flagGet s.mask 5, flagGet s.mask 6, flagGet s.mask 7)
/-- STATUS bit 7 (R38, R134). -/
def State.vblank (s : State) : Bool := flagGet s.status 7
/-- STATUS bit 6 (R38, R134). -/
def State.sprite0Hit (s : State) : Bool := flagGet s.status 6
/-- STATUS bit 5 (R38, R134). -/
def State.spriteOverflow (s : State) : Bool := flagGet s.status 5

/-- `0x2000 + CTRL[1:0] * 0x400` (R134). -/
def State.nametableBase (s : State) : PpuAddr := 0x2000#14 + (s.ctrl.extractLsb' 0 2).setWidth 14 * 0x400#14
/-- `CTRL[3] * 0x1000` (R134). -/
def State.spritePatternBase (s : State) : PpuAddr := if flagGet s.ctrl 3 then 0x1000#14 else 0x0000#14
/-- `CTRL[4] * 0x1000` (R134). -/
def State.backgroundPatternBase (s : State) : PpuAddr := if flagGet s.ctrl 4 then 0x1000#14 else 0x0000#14
/-- CTRL bit 5: 8x16 sprites (R34, R134). -/
def State.spriteSize16 (s : State) : Bool := flagGet s.ctrl 5
/-- CTRL bit 6, master/slave select: stored, without effect in the block (R34). -/
def State.masterSlave (s : State) : Bool := flagGet s.ctrl 6

/-- `step()`, the VRAM increment: 32 when CTRL[2] is set, else 1 (R142). -/
def State.incrementStep (s : State) : PpuAddr := if flagGet s.ctrl 2 then 32#14 else 1#14

/-- `nmiRequested()`: a level computed from the current state, not stored (R235). -/
def State.nmiRequested (s : State) : Bool := s.nmiEnabled && s.vblank

/-- STATUS after an R STATUS: VBLANK cleared, the other bits kept (R145). -/
def State.clearVblank (s : State) : State := { s with status := flagSet s.status 7 false }

/-- STATUS with its three meaningful bits set to the given values (R151). -/
def State.setStatusFlags (s : State) (vblank sprite0Hit spriteOverflow : Bool) : State :=
  { s with status := flagSet (flagSet (flagSet s.status 7 vblank) 6 sprite0Hit) 5 spriteOverflow }

end Sys2Proof.Machine
end

