-- ==== Sys2Proof/Machine/Operands.lean ====
section
/-! DEFINITION. The operand forms: where a DATA byte goes in ADDR, the DMA source addresses, ENVSTAT's flags
(R112 to R114, R162). -/

namespace Sys2Proof.Machine

/-- An address masked to 14 bits (R162): the top two bits are cleared. -/
def maskAddr (v : BitVec 16) : PpuAddr := (v &&& 0x3FFF#16).setWidth 14

/-- `{hi, lo}`, the 16-bit value of two bytes (R19). -/
def pair (hi lo : Byte) : BitVec 16 := (hi.setWidth 16 <<< 8) ||| lo.setWidth 16

/-- The low slot of the address latch, `ADDR[7:0]` (R42). -/
def addrLow (a : PpuAddr) : Byte := a.extractLsb' 0 8

/-- The high slot of the address latch, `ADDR[13:8]` (R42). -/
def addrHigh (a : PpuAddr) : BitVec 6 := a.extractLsb' 8 6

/-- `((d << 8) | ADDR[7:0]) & 0x3FFF`: a byte placed in the high slot (R162, R170). -/
def withHighByte (a : PpuAddr) (d : Byte) : PpuAddr := maskAddr (pair d (addrLow a))

/-- `(ADDR & 0x3F00) | d`: a byte placed in the low slot (R162, R170). -/
def withLowByte (a : PpuAddr) (d : Byte) : PpuAddr := (a &&& 0x3F00#14) ||| d.setWidth 14

/-- The source address `(p << 8) + i` of the `i`-th copy of `OAMDMA p` (R113, R213). -/
def dmaSource (p : Byte) (i : Nat) : CpuAddr := (p.setWidth 16 <<< 8) + BitVec.ofNat 16 i

/-- ENVSTAT's operand: the new VBLANK, SPR0_HIT and SPR_OVF (R114). -/
def envVblank (f : Byte) : Bool := f.getLsbD 7
/-- See `envVblank`. -/
def envSprite0Hit (f : Byte) : Bool := f.getLsbD 6
/-- See `envVblank`. -/
def envSpriteOverflow (f : Byte) : Bool := f.getLsbD 5

end Sys2Proof.Machine
end

