-- ==== Sys2Proof/Machine/Ops.lean ====
section
/-! DEFINITION. The named operations: stores, address decode and mirror router, the PPU-space access, the two latches,
the DMA supplier's answers, the marks, and how an issued operation is taken. -/

namespace Sys2Proof.Machine

/-! ### One store -/

/-- What an index no cell lists reads as. DESIGN CHOICE, unsafe for `State.reset` alone (log 4). -/
def Memory.unlisted : Byte := 0

/-- The byte a cell lists at index `a`. -/
def Memory.lookup : List Host.Cell → Nat → Option Byte
  | [], _ => none
  | (b, w) :: m, a => if a = b then some w else Memory.lookup m a

/-- The byte at index `a`. -/
def Memory.read (m : Memory) (a : Nat) : Byte := (Memory.lookup m a).getD Memory.unlisted

/-- The store with byte `v` at index `a`, in canonical form. -/
def Memory.write : Memory → Nat → Byte → Memory
  | [], a, v => if v = Memory.unlisted then [] else [(a, v)]
  | (b, w) :: m, a, v =>
    if a < b then (if v = Memory.unlisted then (b, w) :: m else (a, v) :: (b, w) :: m)
    else if a = b then (if v = Memory.unlisted then m else (a, v) :: m)
    else (b, w) :: Memory.write m a v

/-- The canonical form: indexes strictly rise, and no cell holds what an unlisted index reads as. -/
abbrev Memory.wf (m : Memory) : Prop :=
  m.Pairwise (fun x y => x.1 < y.1) ∧ ∀ c ∈ m, c.2 ≠ Memory.unlisted

/-- Every listed index lies below `size`. -/
abbrev Memory.within (size : Nat) (m : Memory) : Prop := ∀ c ∈ m, c.1 < size

/-- `for i in 0..n-1: m[i] <- f i`, ascending (R89, R213). -/
def Memory.fill (m : Memory) (n : Nat) (f : Nat → Byte) : Memory :=
  (List.range n).foldl (fun m i => m.write i (f i)) m

/-- The store that holds the bytes of a list from index `k` on. -/
def Memory.ofBytesFrom : Nat → List Byte → Memory
  | _, [] => []
  | k, v :: l => if v = Memory.unlisted then Memory.ofBytesFrom (k + 1) l else (k, v) :: Memory.ofBytesFrom (k + 1) l

/-- The store that holds the bytes of a list from index 0 on. -/
def Memory.ofBytes (l : List Byte) : Memory := Memory.ofBytesFrom 0 l

/-! ### Places: one byte of one of the four stores -/

/-- A byte of a backing store (R48 to R51), by its index in that store. -/
inductive Place where
  | chr (i : Nat)
  | nt (i : Nat)
  | pal (i : Nat)
  | oam (i : Nat)
  deriving DecidableEq, Repr

/-- The byte at a place. -/
def State.readPlace (s : State) (pl : Place) : Byte :=
  match pl with
  | .chr i => s.chr.read i
  | .nt i => s.nt.read i
  | .pal i => s.pal.read i
  | .oam i => s.oam.read i

/-- The state with byte `v` at a place. -/
def State.writePlace (s : State) (pl : Place) (v : Byte) : State :=
  match pl with
  | .chr i => { s with chr := s.chr.write i v }
  | .nt i => { s with nt := s.nt.write i v }
  | .pal i => { s with pal := s.pal.write i v }
  | .oam i => { s with oam := s.oam.write i v }

/-! ### Address decode and mirror router -/

/-- The backing store an address of the PPU space selects (R74). -/
inductive Region where
  | pattern
  | nametable
  | palette
  deriving DecidableEq, Repr

/-- The region decode: 0x0000 to 0x1FFF, 0x2000 to 0x3EFF, 0x3F00 to 0x3FFF (R74). -/
def regionOf (a : PpuAddr) : Region :=
  if a.toNat ≤ 0x1FFF then .pattern else if a.toNat ≤ 0x3EFF then .nametable else .palette

/-- Step 1 of the mirror router: clear bit 12 (R81). -/
def mirrorFold (a : PpuAddr) : PpuAddr := a &&& 0x2FFF#14

/-- Step 2: the quadrant (R82). -/
def mirrorQuadrant (a : PpuAddr) : BitVec 2 := ((mirrorFold a - 0x2000#14) >>> 10).setWidth 2

/-- Step 2: the offset within the quadrant (R82). -/
def mirrorInner (a : PpuAddr) : BitVec 10 := (mirrorFold a).extractLsb' 0 10

/-- Step 3: the physical table of a quadrant, by the normative table (R83, C2). -/
def physicalTable (mode : MirrorMode) (q : BitVec 2) : Nat :=
  match mode, q.toNat with
  | .horizontal, 0 => 0
  | .horizontal, 1 => 0
  | .horizontal, _ => 1
  | .vertical, 0 => 0
  | .vertical, 1 => 1
  | .vertical, 2 => 0
  | .vertical, _ => 1

/-- `MirrorDecode(mode, a) = o + t * 0x400` (R80, R84). -/
def mirrorDecode (mode : MirrorMode) (a : PpuAddr) : NtOffset :=
  (mirrorInner a).setWidth 11 + BitVec.ofNat 11 (physicalTable mode (mirrorQuadrant a) * 0x400)

/-- `(a - 0x3F00) mod 32` (R77). -/
def paletteIndex (a : PpuAddr) : Nat := (a.toNat - 0x3F00) % 32

/-- The one byte of one store that an address selects (R74). -/
def State.place (s : State) (a : PpuAddr) : Place :=
  match regionOf a with
  | .pattern => .chr a.toNat
  | .nametable => .nt (mirrorDecode s.mirrorMode a).toNat
  | .palette => .pal (paletteIndex a)

/-- A pattern address at or past CHR_SIZE (R79). -/
def State.outOfRange (s : State) (a : PpuAddr) : Bool := regionOf a == .pattern && decide (s.chrSize ≤ a.toNat)

/-- Where a data-port write to `a` stores: nowhere in pattern memory unless CHR_WRITABLE (R76, R78). -/
def State.storePlace (s : State) (a : PpuAddr) : Option Place :=
  if regionOf a = .pattern ∧ s.chrWritable = false then none else some (s.place a)

/-- `MemRead(a, 1)` (R75). -/
def State.memRead (s : State) (a : PpuAddr) : Except Fault Byte :=
  if s.outOfRange a then .error (.patternOutOfRange a) else .ok (s.readPlace (s.place a))

/-- `MemWrite(a, 1, v)` (R76). -/
def State.memWrite (s : State) (a : PpuAddr) (v : Byte) : Except Fault State :=
  match s.storePlace a with
  | none => .ok s
  | some pl => if s.outOfRange a then .error (.patternOutOfRange a) else .ok (s.writePlace pl v)

/-! ### The toggle latch pair (R160 to R169) -/

/-- The other write-position. -/
def Toggle.flip (t : Toggle) : Toggle :=
  match t with
  | .expectHigh => .expectLow
  | .expectLow => .expectHigh

/-- The address latch's `write(b)`: the selected slot is stored masked, then the toggle flips (R161, R162). -/
def State.writeAddrLatch (s : State) (b : Byte) : State :=
  match s.addrW with
  | .expectHigh => { s with addr := withHighByte s.addr b, addrW := s.addrW.flip }
  | .expectLow => { s with addr := withLowByte s.addr b, addrW := s.addrW.flip }

/-- The scroll latch's `write(b)`: no masking (R161, R172). -/
def State.writeScrollLatch (s : State) (b : Byte) : State :=
  match s.scrollW with
  | .expectHigh => { s with scroll0 := b, scrollW := s.scrollW.flip }
  | .expectLow => { s with scroll1 := b, scrollW := s.scrollW.flip }

/-- `resetToggle()` of both latches: no slot changes (R163). -/
def State.resetToggles (s : State) : State := { s with addrW := .expectHigh, scrollW := .expectHigh }

/-- The address latch's `get16()` (R164). -/
def State.addrGet16 (s : State) : BitVec 16 := s.addr.setWidth 16

/-- The scroll latch's `get16()`: `{SCROLL[0], SCROLL[1]}`, unmasked (R164). -/
def State.scrollGet16 (s : State) : BitVec 16 := pair s.scroll0 s.scroll1

/-- The address latch's `set16(v)`: the toggle stays (R165). No operation calls it. -/
def State.addrSet16 (s : State) (v : BitVec 16) : State := { s with addr := maskAddr v }

/-- The address latch's `increment(step)`: addition modulo 2^14; the toggle stays (R166). -/
def State.incrementAddr (s : State) (step : PpuAddr) : State := { s with addr := s.addr + step }

/-! ### The registers a port replaces whole -/

/-- CTRL replaced (R133, R140). -/
def State.setCtrl (s : State) (v : Byte) : State := { s with ctrl := flagReplace s.ctrl v }

/-- MASK replaced (R133, R141). -/
def State.setMask (s : State) (v : Byte) : State := { s with mask := flagReplace s.mask v }

/-- The OAM pointer replaced (R41). -/
def State.setOamAddr (s : State) (v : Byte) : State := { s with oamAddr := v }

/-- The read buffer replaced (R47). -/
def State.setRdbuf (s : State) (v : Byte) : State := { s with rdbuf := v }

/-! ### The operation's result and the DMA supplier -/

/-- `return v`: the operation's result byte (R19; log 8). -/
def State.returns (s : State) (v : Byte) : State := { s with result := some v }

/-- `CpuMemRead(a, 1)`: the byte a premise fixes, else a free value (R22, R216; log 1). -/
def State.cpuMemRead (s : State) (a : CpuAddr) : Byte :=
  match Memory.lookup s.supplier.known a.toNat with
  | some b => b
  | none => Config.cpuByte s.draws a

/-- The byte of the `i`-th copy of `OAMDMA p` (R213). -/
def State.pageByte (s : State) (p : Byte) (i : Nat) : Byte := s.cpuMemRead (dmaSource p i)

/-- The 256 copies of `OAMDMA p`, ascending, from index 0; OAMADDR stays (R213, R214). -/
def State.copyPage (s : State) (p : Byte) : State :=
  { s with oam := s.oam.fill 256 (s.pageByte p), draws := s.draws + 1 }

/-! ### Outcomes, marks and codes -/

/-- What one operation answers. -/
abbrev Answer := Host.Outcome State Fault Refusal

/-- The state in which an issued operation runs: it is off the list, its supplier stands ready, no result yet (log 7). -/
def State.accept (s : State) (q : Issue) (rest : List Issue) : State :=
  { s with pending := rest, supplier := q.supplier, result := none }

/-- OAM after a refusal: as it was, but for a re-entrant OAMDMA, which leaves the first copies done, a free number of them
(R255, U12; log 2). A block already marked takes no operation, so its OAM stays. -/
def State.oamLeft (s : State) (k : Refusal) : Memory :=
  match k, s.refusedMark, s.pending with
  | .reentrantAccess w, none, q :: rest =>
    (match decode q.word with
     | .ok (.oamDma p) => s.oam.fill (Config.copiesDone s.draws p w).val ((s.accept q rest).pageByte p)
     | _ => s.oam)
  | _, _, _ => s.oam

/-- The state an answer leaves: a fault or a refusal sets its mark and changes no hardware state, a re-entrant OAMDMA's
partial copy apart (R24, R253 to R255; log 9). -/
def State.record (s : State) (o : Answer) : State :=
  match o with
  | .next t => t
  | .fault k => { s with faultMark := some k }
  | .refused k => { s with refusedMark := some k, oam := s.oamLeft k }

/-- The numeric code of a fault (R252, D30). -/
def faultCode (k : Fault) : Nat :=
  match k with
  | .patternOutOfRange _ => 1

/-- The numeric code of a refusal, where the spec gives one (R252, D30). -/
def refusalCode (k : Refusal) : Option Nat :=
  match k with
  | .reservedEncoding _ => some 16
  | .reentrantAccess _ => some 17
  | .emptyPatternMemory => some 18
  | _ => none

/-! ### Taking an issued operation -/

/-- What the block does next: stop again, because a mark is set (R24); nothing, because nothing is issued; refuse a
reserved word; or run an operation in the state with that operation taken off the list. -/
inductive Taken where
  | marked (o : Answer)
  | idle
  | reserved (w : OpWord)
  | run (i : Instr) (s : State)

/-- The block takes the oldest issued operation (R32, R94); decoding comes first (R256). -/
def State.take (s : State) : Taken :=
  match s.faultMark, s.refusedMark, s.pending with
  | some k, _, _ => .marked (.fault k)
  | none, some k, _ => .marked (.refused k)
  | none, none, [] => .idle
  | none, none, q :: rest =>
    (match decode q.word with
     | .ok i => .run i (s.accept q rest)
     | .error (.reservedEncoding w) => .reserved w)

/-- An operation word issued with an honest supplier whose every byte is free. -/
def issueOf (w : OpWord) : Issue := ⟨w, ⟨[], none⟩⟩

/-- The state with one more operation issued, after all earlier ones (R94). -/
def State.issue (s : State) (q : Issue) : State := { s with pending := s.pending ++ [q] }

/-- The state with `w` placed where the block takes its next operation, and no mark that would keep the block from
taking it (log 10). -/
def State.placeNext (s : State) (w : OpWord) : State :=
  { s with pending := issueOf w :: s.pending, faultMark := none, refusedMark := none }

end Sys2Proof.Machine
end

