-- ==== Sys2Proof/Machine/DataPort.lean ====
section
/-! DEFINITION. The data port: W DATA and R DATA (spec/42_data_port.md). -/

namespace Sys2Proof.Machine

/-- `W DATA, #d`: the store first, then the increment, unconditionally; a fault comes before any change (R190, R191). -/
def execWData (d : Byte) (s : State) : Answer :=
  match s.memWrite s.addr d with
  | .error k => .fault k
  | .ok t => .next (t.incrementAddr t.incrementStep)

/-- `R DATA`: direct from 0x3F00, through RDBUF below it; the address before the increment decides (R192, R193). -/
def execRData (s : State) : Answer :=
  match s.memRead s.addr with
  | .error k => .fault k
  | .ok v =>
    if 0x3F00 ≤ s.addr.toNat then .next ((s.incrementAddr s.incrementStep).returns v)
    else .next (((s.setRdbuf v).incrementAddr s.incrementStep).returns s.rdbuf)

end Sys2Proof.Machine
end

