-- ==== Sys2Proof/Machine/FlagPorts.lean ====
section
/-! DEFINITION. The flag-register operations: W CTRL, W MASK, R STATUS, W STATUS, ENVSTAT (spec/40_flag_registers.md). -/

namespace Sys2Proof.Machine

/-- `W CTRL, #d` (R140). -/
def execWCtrl (d : Byte) (s : State) : Answer := .next (s.setCtrl d)

/-- `W MASK, #d` (R141). -/
def execWMask (d : Byte) (s : State) : Answer := .next (s.setMask d)

/-- `W STATUS, #d`: accepted, no state change (R150, D8). -/
def execWStatus (_d : Byte) (s : State) : Answer := .next s

/-- `R STATUS`: the snapshot first, then the three side effects, always (R145 to R147). -/
def execRStatus (s : State) : Answer := .next ((s.clearVblank.resetToggles).returns s.status)

/-- `ENVSTAT #f`: the three status flags; an operand with `f[4:0] != 0` is refused before any change (R151, R123). -/
def execEnvStat (f : Byte) (s : State) : Answer :=
  if envOperandLegal f then .next (s.setStatusFlags (envVblank f) (envSprite0Hit f) (envSpriteOverflow f))
  else .refused (.reservedEncoding (encode (.envStat f)))

end Sys2Proof.Machine
end

