-- ==== Sys2Proof/Machine/LatchPorts.lean ====
section
/-! DEFINITION. The latch ports: W ADDR and W SCROLL (spec/41_latch_ports.md). -/

namespace Sys2Proof.Machine

/-- `W ADDR, #d`: takes effect at once (R168, R170). -/
def execWAddr (d : Byte) (s : State) : Answer := .next (s.writeAddrLatch d)

/-- `W SCROLL, #d` (R172). -/
def execWScroll (d : Byte) (s : State) : Answer := .next (s.writeScrollLatch d)

end Sys2Proof.Machine
end

