-- ==== Sys2Proof/Machine/OamPorts.lean ====
section
/-! DEFINITION. The OAM ports and the OAM DMA engine: W OAMADDR, W OAMDATA, R OAMDATA, OAMDMA (spec/43_oam_dma.md). -/

namespace Sys2Proof.Machine

/-- `W OAMADDR, #d` (R210). -/
def execWOamAddr (d : Byte) (s : State) : Answer := .next (s.setOamAddr d)

/-- `W OAMDATA, #d`: the pointer wraps at 256 (R211). -/
def execWOamData (d : Byte) (s : State) : Answer :=
  .next ((s.writePlace (.oam s.oamAddr.toNat) d).setOamAddr (s.oamAddr + 1))

/-- `R OAMDATA`: no increment (R212). -/
def execROamData (s : State) : Answer := .next (s.returns (s.readPlace (.oam s.oamAddr.toNat)))

/-- `OAMDMA #p`: 256 copies from index 0 (R213, R214), refused when its supplier issues an operation
(R217). DESIGN CHOICE (log 23): the word it issues is not decoded, so a reserved one is answered the same. What the refusal
leaves of the copies is `State.oamLeft`'s. -/
def execOamDma (p : Byte) (s : State) : Answer :=
  match s.supplier.reentrant with
  | some w => .refused (.reentrantAccess w)
  | none => .next (s.copyPage p)

end Sys2Proof.Machine
end

