-- ==== Sys2Proof/Machine/Dispatch.lean ====
section
/-! DEFINITION. One arm per operation. -/

namespace Sys2Proof.Machine

def exec (i : Instr) (s : State) : Host.Outcome State Fault Refusal :=
  match i with
  | .wCtrl d => Sys2Proof.Machine.execWCtrl d s
  | .wMask d => Sys2Proof.Machine.execWMask d s
  | .wStatus d => Sys2Proof.Machine.execWStatus d s
  | .wOamAddr d => Sys2Proof.Machine.execWOamAddr d s
  | .wOamData d => Sys2Proof.Machine.execWOamData d s
  | .wScroll d => Sys2Proof.Machine.execWScroll d s
  | .wAddr d => Sys2Proof.Machine.execWAddr d s
  | .wData d => Sys2Proof.Machine.execWData d s
  | .rStatus => Sys2Proof.Machine.execRStatus s
  | .rOamData => Sys2Proof.Machine.execROamData s
  | .rData => Sys2Proof.Machine.execRData s
  | .oamDma p => Sys2Proof.Machine.execOamDma p s
  | .envStat f => Sys2Proof.Machine.execEnvStat f s

end Sys2Proof.Machine
end

