-- ==== Sys2Proof/Machine/Step.lean ====
section
/-! DEFINITION. One step: the block takes the oldest issued operation and runs it (R32, R94). -/

namespace Sys2Proof.Machine

/-- One step. Nothing issued: nothing happens (log 7). A set mark: the block stops as it did (R24). -/
def step (s : State) : Host.Outcome State Fault Refusal :=
  match s.take with
  | .marked o => o
  | .idle => .next s
  | .reserved w => .refused (.reservedEncoding w)
  | .run i t => exec i t

/-- `s` with the operation whose bits are `w` placed where the next step takes it; `s` itself where `w` is no 13-bit
word (log 10). -/
def State.withFetchWord (s : State) (nbits w : Nat) : State :=
  match tableWord nbits w with
  | some v => s.placeNext v
  | none => s

end Sys2Proof.Machine
end

