-- ==== Sys2Proof/Machine/Assembler.lean ====
section
/-! DEFINITION. The textual syntax of one operation (R126) and the pseudo-operations (R127). Text is a list of characters
here, so that the kernel can evaluate it. -/

namespace Sys2Proof.Machine

/-- A line of text. -/
abbrev Text := List Char

/-- An upper-case hexadecimal digit. -/
def hexDigit (n : Nat) : Char :=
  ['0', '1', '2', '3', '4', '5', '6', '7', '8', '9', 'A', 'B', 'C', 'D', 'E', 'F'].getD n '0'

/-- A byte as `0x` and two digits: one of the forms R126 allows (log 22). -/
def hexByte (d : Byte) : Text := ['0', 'x', hexDigit (d.toNat / 16), hexDigit (d.toNat % 16)]

/-- The names of the eight ports in select order (R115, R126). -/
def portName (sel : Nat) : Text :=
  [['C', 'T', 'R', 'L'], ['M', 'A', 'S', 'K'], ['S', 'T', 'A', 'T', 'U', 'S'], ['O', 'A', 'M', 'A', 'D', 'D', 'R'],
   ['O', 'A', 'M', 'D', 'A', 'T', 'A'], ['S', 'C', 'R', 'O', 'L', 'L'], ['A', 'D', 'D', 'R'], ['D', 'A', 'T', 'A']].getD sel []

/-- `OAMDMA`. -/
def dmaName : Text := ['O', 'A', 'M', 'D', 'M', 'A']

/-- `ENVSTAT`. -/
def envName : Text := ['E', 'N', 'V', 'S', 'T', 'A', 'T']

/-- `W <port>, #d`. -/
def writeText (sel : Nat) (d : Byte) : Text := ['W', ' '] ++ portName sel ++ [',', ' ', '#'] ++ hexByte d

/-- `R <port>`. -/
def readText (sel : Nat) : Text := ['R', ' '] ++ portName sel

/-- The text of an operation (R126). -/
def textOf (i : Instr) : Text :=
  match i with
  | .wCtrl d => writeText 0 d
  | .wMask d => writeText 1 d
  | .wStatus d => writeText 2 d
  | .wOamAddr d => writeText 3 d
  | .wOamData d => writeText 4 d
  | .wScroll d => writeText 5 d
  | .wAddr d => writeText 6 d
  | .wData d => writeText 7 d
  | .rStatus => readText 2
  | .rOamData => readText 4
  | .rData => readText 7
  | .oamDma p => dmaName ++ [' ', '#'] ++ hexByte p
  | .envStat f => envName ++ [' ', '#'] ++ hexByte f

/-- The value of a digit, hexadecimal letters included. -/
def digitValue (c : Char) : Option Nat :=
  if 48 ≤ c.toNat ∧ c.toNat ≤ 57 then some (c.toNat - 48)
  else if 65 ≤ c.toNat ∧ c.toNat ≤ 70 then some (c.toNat - 55)
  else if 97 ≤ c.toNat ∧ c.toNat ≤ 102 then some (c.toNat - 87)
  else none

/-- The value of a run of digits to a base, after the digits worth `acc`. -/
def digitsValue (base acc : Nat) : Text → Option Nat
  | [] => some acc
  | c :: cs =>
    match digitValue c with
    | some v => if v < base then digitsValue base (acc * base + v) cs else none
    | none => none

/-- A number below `bound`, written `0x..` or in decimal (R126). -/
def readNumber (bound : Nat) (t : Text) : Option Nat :=
  let value : Option Nat :=
    match t with
    | [] => none
    | [c] => digitsValue 10 0 [c]
    | c :: e :: cs =>
      if c = '0' ∧ e = 'x' then (if cs.isEmpty then none else digitsValue 16 0 cs) else digitsValue 10 0 (c :: e :: cs)
  match value with
  | some v => if v < bound then some v else none
  | none => none

/-- An 8-bit number (R126). -/
def readByte (t : Text) : Option Byte := (readNumber 256 t).map (BitVec.ofNat 8)

/-- A 14-bit number, the operand of `SETADDR` (R127). -/
def readAddr (t : Text) : Option PpuAddr := (readNumber 0x4000 t).map (BitVec.ofNat 14)

/-- A finished word of text, its characters gathered in reverse. -/
def finishWord (cur : Text) : List Text := if cur.isEmpty then [] else [cur.reverse]

/-- The words of a line: `,` and `#` stand alone, spaces part words, text after `;` is a comment (R126). -/
def wordsOf (cur : Text) : Text → List Text
  | [] => finishWord cur
  | c :: cs =>
    if c = ';' then finishWord cur
    else if c = ' ' then finishWord cur ++ wordsOf [] cs
    else if c = ',' ∨ c = '#' then finishWord cur ++ [c] :: wordsOf [] cs
    else wordsOf (c :: cur) cs

/-- The write operation of a port, by name. -/
def writeNamed (port : Text) : Option (Byte → Instr) :=
  if port = portName 0 then some .wCtrl
  else if port = portName 1 then some .wMask
  else if port = portName 2 then some .wStatus
  else if port = portName 3 then some .wOamAddr
  else if port = portName 4 then some .wOamData
  else if port = portName 5 then some .wScroll
  else if port = portName 6 then some .wAddr
  else if port = portName 7 then some .wData
  else none

/-- The read operation of a port, by name; the write-only ports have none (R121). -/
def readNamed (port : Text) : Option Instr :=
  if port = portName 2 then some .rStatus
  else if port = portName 4 then some .rOamData
  else if port = portName 7 then some .rData
  else none

/-- The operation a list of words writes; a read may name its result with `-> name` (R126). -/
def instrOfWords (ws : List Text) : Option Instr :=
  match ws with
  | [r, port] => if r = ['R'] then readNamed port else none
  | [r, port, arrow, _name] => if r = ['R'] ∧ arrow = ['-', '>'] then readNamed port else none
  | [op, hash, n] =>
    if hash = ['#'] ∧ op = dmaName then (readByte n).map Instr.oamDma
    else if hash = ['#'] ∧ op = envName then (readByte n).map Instr.envStat
    else none
  | [w, port, comma, hash, n] =>
    if w = ['W'] ∧ comma = [','] ∧ hash = ['#'] then
      match writeNamed port, readByte n with
      | some make, some d => some (make d)
      | _, _ => none
    else none
  | _ => none

/-- The operation a line of text writes. -/
def instrOfText (t : Text) : Option Instr := instrOfWords (wordsOf [] t)

/-- The pseudo-operations (R127). -/
inductive Pseudo where
  | resetW
  | setAddr (v : PpuAddr)
  | setAddrNR (v : PpuAddr)
  | setScroll (a b : Byte)
  | prime
  deriving DecidableEq, Repr

/-- `v >> 8` of a 14-bit address, as a byte (R127). -/
def highByteOf (v : PpuAddr) : Byte := (v >>> 8).setWidth 8

/-- The expansion of a pseudo-operation (R127). -/
def expand (q : Pseudo) : List Instr :=
  match q with
  | .resetW => [.rStatus]
  | .setAddr v => [.rStatus, .wAddr (highByteOf v), .wAddr (addrLow v)]
  | .setAddrNR v => [.wAddr (highByteOf v), .wAddr (addrLow v)]
  | .setScroll a b => [.rStatus, .wScroll a, .wScroll b]
  | .prime => [.rData]

/-- The pseudo-operation a list of words writes (R127). -/
def pseudoOfWords (ws : List Text) : Option Pseudo :=
  match ws with
  | [name] =>
    if name = ['R', 'E', 'S', 'E', 'T', 'W'] then some .resetW
    else if name = ['P', 'R', 'I', 'M', 'E'] then some .prime
    else none
  | [name, hash, n] =>
    if hash = ['#'] ∧ name = ['S', 'E', 'T', 'A', 'D', 'D', 'R'] then (readAddr n).map Pseudo.setAddr
    else if hash = ['#'] ∧ name = ['S', 'E', 'T', 'A', 'D', 'D', 'R', '.', 'N', 'R'] then (readAddr n).map Pseudo.setAddrNR
    else none
  | [name, hash, n, comma, hash', m] =>
    if name = ['S', 'E', 'T', 'S', 'C', 'R', 'O', 'L', 'L'] ∧ hash = ['#'] ∧ comma = [','] ∧ hash' = ['#'] then
      match readByte n, readByte m with
      | some a, some b => some (.setScroll a b)
      | _, _ => none
    else none
  | _ => none

/-- The operations a line of text stands for: one, or a pseudo-operation's expansion (R126, R127). -/
def operationsOfText (t : Text) : Option (List Instr) :=
  match instrOfText t, pseudoOfWords (wordsOf [] t) with
  | some i, _ => some [i]
  | none, some q => some (expand q)
  | none, none => none

end Sys2Proof.Machine
end

