-- ==== Sys2Proof/Machine/CpuBus.lean ====
section
/-! DEFINITION. The optional binding of the ports to CPU addresses (R125, not normative; log 19): which operation word a
CPU access stands for. No step uses it. -/

namespace Sys2Proof.Machine

/-- A CPU address of the eight ports, 0x2000 to 0x3FFF (R125). -/
def isPortAddress (a : CpuAddr) : Bool := 0x2000 ≤ a.toNat && decide (a.toNat ≤ 0x3FFF)

/-- The word of a CPU write of byte `d` at `a`, if the write reaches the block (R125). -/
def busWriteWord (a : CpuAddr) (d : Byte) : Option OpWord :=
  if isPortAddress a then some (opWord 0 0 (a.extractLsb' 0 3) d)
  else if a = 0x4014#16 then some (opWord 1 0 0 d)
  else none

/-- The word of a CPU read at `a`, if the read reaches the block; reserved for the write-only ports (R121, R125). -/
def busReadWord (a : CpuAddr) : Option OpWord :=
  if isPortAddress a then some (opWord 0 1 (a.extractLsb' 0 3) 0) else none

end Sys2Proof.Machine
end

