-- ==== Sys2Proof/Machine/Construction.lean ====
section
/-! DEFINITION. Construction, the block's only reset (R240 to R242, R56). -/

namespace Sys2Proof.Machine

/-- The state after construction from the given parameters (R56). -/
def State.constructed (p : Params) : State :=
  { State.reset with
    rdbuf := p.initRdbuf
    nt := Memory.ofBytes p.initNt.toList
    pal := Memory.ofBytes p.initPal.toList
    oam := Memory.ofBytes p.initOam.toList
    chr := Memory.ofBytes p.chr
    chrSize := p.chr.length
    mirrorMode := p.mirrorMode
    chrWritable := p.chrWritable }

/-- Construction: an empty pattern memory produces no state (R241). -/
def construct (p : Params) : Answer :=
  if p.chr.length = 0 then .refused .emptyPatternMemory else .next (State.constructed p)

end Sys2Proof.Machine
end

