-- ==== Sys2Proof/Machine/Queries.lean ====
section
/-! DEFINITION. The rendering collaborator's queries: functions of the state, no operations (R230 to R233). The named
accessors of R134 and nmiRequested of R235 stand in Flags.lean. -/

namespace Sys2Proof.Machine

/-- `peekCtrl()` (R230). -/
def State.peekCtrl (s : State) : Byte := s.ctrl
/-- `peekMask()` (R230). -/
def State.peekMask (s : State) : Byte := s.mask
/-- `peekStatus()`: no R STATUS, so no side effect (R147, R230). -/
def State.peekStatus (s : State) : Byte := s.status

/-- `peekNametable(a)`, through the mirror router; no value outside 0x2000 to 0x3EFF (R231; log 18). -/
def State.peekNametable (s : State) (a : PpuAddr) : Option Byte :=
  if regionOf a = .nametable then some (s.readPlace (s.place a)) else none

/-- `peekPalette(i)`, `i` in 0..31 (R231). -/
def State.peekPalette (s : State) (i : BitVec 5) : Byte := s.readPlace (.pal i.toNat)

/-- `peekPattern(a)`: no value at or past CHR_SIZE, and no fault (R231); none outside 0x0000 to 0x1FFF (log 18). -/
def State.peekPattern (s : State) (a : PpuAddr) : Option Byte :=
  if regionOf a = .pattern ∧ a.toNat < s.chrSize then some (s.readPlace (.chr a.toNat)) else none

/-- `peekScroll()` (R232). -/
def State.peekScroll (s : State) : Byte × Byte := (s.scroll0, s.scroll1)

/-- `peekOam(i)`, `i` in 0..255 (R232). -/
def State.peekOam (s : State) (i : Byte) : Byte := s.readPlace (.oam i.toNat)

end Sys2Proof.Machine
end

