-- ==== Sys2Proof/Safety.lean ====
section
/-! DEFINITION. The words claims use: the invariant, what an answer leaves, and runs of operations. -/

namespace Sys2Proof.Machine

/-- Each store is in canonical form, so that a byte read after it is written is the byte written. -/
abbrev State.Canonical (s : State) : Prop :=
  Memory.wf s.nt ∧ Memory.wf s.pal ∧ Memory.wf s.oam ∧ Memory.wf s.chr

/-- Each store lists indexes inside its size only (R48 to R51). -/
abbrev State.InSize (s : State) : Prop :=
  Memory.within 2048 s.nt ∧ Memory.within 32 s.pal ∧ Memory.within 256 s.oam ∧ Memory.within s.chrSize s.chr

/-- What holds in every reachable state (R57), and that the stores are plain canonical data. ADDR and the byte registers
are in range by their types; STATUS[4:0] = 0 (R40); pattern memory is non-empty (R14, R241). -/
abbrev State.Inv (s : State) : Prop :=
  s.status.extractLsb' 0 5 = 0#5 ∧ 1 ≤ s.chrSize ∧ s.Canonical ∧ s.InSize

/-- The state after one step, a mark recorded if the step stopped (R24). -/
def State.after (s : State) : State := s.record (step s)

/-- The operations of a list run one after the other, up to the first fault or refusal (R94). -/
def execAll : List Instr → State → Answer
  | [], s => .next s
  | i :: is, s =>
    match exec i s with
    | .next t => execAll is t
    | .fault k => .fault k
    | .refused k => .refused k

/-- An answer with its next state changed by `g`; a fault or a refusal stays. -/
def mapNext (g : State → State) (o : Answer) : Answer :=
  match o with
  | .next t => .next (g t)
  | .fault k => .fault k
  | .refused k => .refused k

end Sys2Proof.Machine
end

