-- ==== Sys2Proof/Certificates/Slice0/Obligations.lean ====
section
/-! DEFINITION. The statements for the provers, by file of spec/. A witness for the hypotheses of each stands in
Tests/Slice0.lean under the name witness_<statement>. -/

open Sys2Proof Sys2Proof.Machine

/-! ### Encoding (spec/30_encoding.md) -/

/-- Words of spec/95 section 2.7 and the canonical words of R115, written out, decode to the operations they stand
for. -/
def Obligations.SpecWordsDecode : Prop :=
  decode 0b0000000000000#13 = .ok (.wCtrl 0x00) ∧ decode 0b0000110000001#13 = .ok (.wMask 0x81) ∧
  decode 0b0001011111111#13 = .ok (.wStatus 0xFF) ∧ decode 0b0001111111110#13 = .ok (.wOamAddr 0xFE) ∧
  decode 0b0010000100010#13 = .ok (.wOamData 0x22) ∧ decode 0b0010101111101#13 = .ok (.wScroll 0x7D) ∧
  decode 0b0011000100011#13 = .ok (.wAddr 0x23) ∧ decode 0b0011111111111#13 = .ok (.wData 0xFF) ∧
  decode 0b0101011111111#13 = .ok .rStatus ∧ decode 0b0110000000000#13 = .ok .rOamData ∧
  decode 0b0111101011010#13 = .ok .rData ∧ decode 0b1000000000010#13 = .ok (.oamDma 0x02) ∧
  decode 0b1000111100000#13 = .ok (.envStat 0xE0)

/-- Every well-formed operation is what its own word decodes to: derived from the opcode map of R115. -/
def Obligations.DecodeEncodeRoundTrip : Prop :=
  ∀ i : Instr, WellFormed i → decode (encode i) = .ok i

/-- R117, the spec's own inference from the opcode map: the table-driven decoder is the nested choice on SPACE, RW,
SEL and DATA, on all 8192 words. -/
def Obligations.DecodingFollowsTheFields : Prop :=
  ∀ w : OpWord, decode w =
    (if w.getLsbD 12 = false then
      (if w.getLsbD 11 = false then
        (if w.extractLsb' 8 3 = 0#3 then .ok (.wCtrl (w.extractLsb' 0 8))
         else if w.extractLsb' 8 3 = 1#3 then .ok (.wMask (w.extractLsb' 0 8))
         else if w.extractLsb' 8 3 = 2#3 then .ok (.wStatus (w.extractLsb' 0 8))
         else if w.extractLsb' 8 3 = 3#3 then .ok (.wOamAddr (w.extractLsb' 0 8))
         else if w.extractLsb' 8 3 = 4#3 then .ok (.wOamData (w.extractLsb' 0 8))
         else if w.extractLsb' 8 3 = 5#3 then .ok (.wScroll (w.extractLsb' 0 8))
         else if w.extractLsb' 8 3 = 6#3 then .ok (.wAddr (w.extractLsb' 0 8))
         else .ok (.wData (w.extractLsb' 0 8)))
       else
        (if w.extractLsb' 8 3 = 2#3 then .ok .rStatus
         else if w.extractLsb' 8 3 = 4#3 then .ok .rOamData
         else if w.extractLsb' 8 3 = 7#3 then .ok .rData
         else .error (.reservedEncoding w)))
     else
      (if w.extractLsb' 8 4 = 0b0000#4 then .ok (.oamDma (w.extractLsb' 0 8))
       else if w.extractLsb' 8 4 = 0b0001#4 then
        (if w.extractLsb' 0 5 = 0#5 then .ok (.envStat (w.extractLsb' 0 8)) else .error (.reservedEncoding w))
       else .error (.reservedEncoding w)))

/-- R116: the DATA field of a read word is ignored, and an encoder writes 0 there. -/
def Obligations.ReadWordsIgnoreData : Prop :=
  (∀ d : Byte, decode (opWord 0 1 2 d) = .ok .rStatus ∧ decode (opWord 0 1 4 d) = .ok .rOamData ∧
    decode (opWord 0 1 7 d) = .ok .rData) ∧
  encode .rStatus = 0xA00#13 ∧ encode .rOamData = 0xC00#13 ∧ encode .rData = 0xF00#13

/-- Derived from the field layout (R111) and the read words' DATA (R116): a decoded word stands for a well-formed
operation, whose own word is that word, but for a read word's DATA bits. -/
def Obligations.DecodedWordsReEncode : Prop :=
  ∀ (w : OpWord) (i : Instr), decode w = .ok i →
    WellFormed i ∧
    (if i = .rStatus ∨ i = .rOamData ∨ i = .rData then encode i = w &&& 0x1F00#13 else encode i = w)

/-- From R120, R121, R123 and R253: a step on a reserved word is refused, naming the word, and no state element but
the mark changes. That the refused word stays on the pending list is the model's choice (log 9). -/
def Obligations.ReservedWordsAreRefused : Prop :=
  ∀ (s : State) (q : Issue) (rest : List Issue),
    s.faultMark = none → s.refusedMark = none → s.pending = q :: rest →
    ((q.word.getLsbD 12 = true ∧ q.word.extractLsb' 8 4 ≠ 0b0000#4 ∧ q.word.extractLsb' 8 4 ≠ 0b0001#4) ∨
     (q.word.getLsbD 12 = false ∧ q.word.getLsbD 11 = true ∧
       (q.word.extractLsb' 8 3 = 0#3 ∨ q.word.extractLsb' 8 3 = 1#3 ∨ q.word.extractLsb' 8 3 = 3#3 ∨
        q.word.extractLsb' 8 3 = 5#3 ∨ q.word.extractLsb' 8 3 = 6#3)) ∨
     (q.word.extractLsb' 8 5 = 0b10001#5 ∧ q.word.extractLsb' 0 5 ≠ 0#5)) →
    step s = .refused (.reservedEncoding q.word) ∧
    s.after = { s with refusedMark := some (.reservedEncoding q.word) }

/-- The optional binding of R125, which the spec calls not normative (log 19): a CPU access at 0x2000 to 0x3FFF is the
port word of `A[2:0]`, a write to 0x4014 is OAMDMA, and every other access is none of the block's. -/
def Obligations.CpuBusBinding : Prop :=
  ∀ (a : CpuAddr) (d : Byte),
    (0x2000 ≤ a.toNat ∧ a.toNat ≤ 0x3FFF →
      busWriteWord a d = some (opWord 0 0 (a.extractLsb' 0 3) d) ∧
      (∃ w, busReadWord a = some w ∧ w.getLsbD 12 = false ∧ w.getLsbD 11 = true ∧
        w.extractLsb' 8 3 = a.extractLsb' 0 3)) ∧
    (a = 0x4014#16 → (busWriteWord a d).map decode = some (.ok (.oamDma d)) ∧ busReadWord a = none) ∧
    ((a.toNat < 0x2000 ∨ 0x3FFF < a.toNat) ∧ a ≠ 0x4014#16 → busWriteWord a d = none ∧ busReadWord a = none)

/-- Reading the text of an operation gives the operation back (R126; the form of the number is log 22). -/
def Obligations.TextReadsBack : Prop :=
  ∀ i : Instr, instrOfText (textOf i) = some i

/-! ### A step -/

/-- A step of an unmarked block runs the oldest issued operation, with that operation off the list, its supplier at
hand and no result yet (R32, R94; log 7, log 8). -/
def Obligations.StepRunsTheIssuedOperation : Prop :=
  ∀ (s : State) (q : Issue) (rest : List Issue) (i : Instr),
    s.faultMark = none → s.refusedMark = none → s.pending = q :: rest → decode q.word = .ok i →
    step s = exec i { s with pending := rest, supplier := q.supplier, result := none }

/-- With nothing issued, an unmarked block does nothing. The model's choice (log 7). -/
def Obligations.NothingIssuedNothingHappens : Prop :=
  ∀ s : State, s.faultMark = none → s.refusedMark = none → s.pending = [] → step s = .next s

/-- A step that faults or is refused leaves every state element as it was and sets the mark; from then on no operation
is taken, whatever more is issued. From R253 and R254, and the spec's inference R255, by which a re-entrant OAMDMA may
have changed OAM (log 2). That the operation that stopped stays on the list is the model's choice (log 9). -/
def Obligations.MarkedBlockTakesNoOperation : Prop :=
  ∀ s : State, s.faultMark = none → s.refusedMark = none →
    (∀ k, step s = .fault k → s.after = { s with faultMark := some k } ∧
      ∀ (more : List Issue) (n : Nat),
        State.after^[n] { s.after with pending := s.pending ++ more } = { s.after with pending := s.pending ++ more }) ∧
    (∀ k, step s = .refused k →
      s.after = { s with refusedMark := some k, oam := s.after.oam } ∧
      ((∀ w, k ≠ .reentrantAccess w) → s.after.oam = s.oam) ∧
      ∀ (more : List Issue) (n : Nat),
        State.after^[n] { s.after with pending := s.pending ++ more } = { s.after with pending := s.pending ++ more })

/-- An operation sees nothing of the operations issued after it: issuing one more changes a step in nothing but the
list's end (R94). -/
def Obligations.LaterOperationsAreUnseen : Prop :=
  ∀ (s : State) (q : Issue), s.pending ≠ [] → step (s.issue q) = mapNext (fun t => t.issue q) (step s)

/-! ### Flag registers (spec/40_flag_registers.md) -/

/-- R131, R132, R133: `get`, `set` and `replace` of a BitFlagRegister. -/
def Obligations.FlagRegisterContract : Prop :=
  ∀ (r v : Byte) (i j : Fin 8) (b : Bool),
    flagGet r i = r.getLsbD i.val ∧
    flagGet (flagSet r i b) j = (if j = i then b else flagGet r j) ∧
    flagReplace r v = v

/-- R134: the named accessors of CTRL, MASK and STATUS. -/
def Obligations.NamedAccessors : Prop :=
  ∀ s : State,
    s.nmiEnabled = s.ctrl.getLsbD 7 ∧ s.backgroundRenderEnabled = s.mask.getLsbD 3 ∧
    s.spriteRenderEnabled = s.mask.getLsbD 4 ∧ s.vblank = s.status.getLsbD 7 ∧ s.sprite0Hit = s.status.getLsbD 6 ∧
    s.spriteOverflow = s.status.getLsbD 5 ∧ s.spriteSize16 = s.ctrl.getLsbD 5 ∧
    s.nametableBase.toNat = 0x2000 + s.ctrl.toNat % 4 * 0x400 ∧
    s.spritePatternBase.toNat = (s.ctrl.getLsbD 3).toNat * 0x1000 ∧
    s.backgroundPatternBase.toNat = (s.ctrl.getLsbD 4).toNat * 0x1000

/-- R140: W CTRL stores the byte exactly and does nothing else; the new INC gives the step, and NMI the request. -/
def Obligations.WriteControlStoresTheByte : Prop :=
  ∀ (d : Byte) (s : State),
    encode (.wCtrl d) = 0x000#13 ||| d.setWidth 13 ∧
    ∃ t, exec (.wCtrl d) s = .next t ∧ t = { s with ctrl := d } ∧
      t.incrementStep = (if d.getLsbD 2 then 32#14 else 1#14) ∧
      (d.getLsbD 7 = true → s.vblank = true → t.nmiRequested = true)

/-- R141, R37: W MASK stores the byte exactly and does nothing else; and no other operation reads MASK: with another
MASK it does the same. -/
def Obligations.WriteMaskStoresTheByte : Prop :=
  (∀ (d : Byte) (s : State),
    encode (.wMask d) = 0x100#13 ||| d.setWidth 13 ∧
    ∃ t, exec (.wMask d) s = .next t ∧ t = { s with mask := d } ∧ t.backgroundRenderEnabled = d.getLsbD 3) ∧
  ∀ (i : Instr) (s : State) (m : Byte), (∀ d, i ≠ .wMask d) →
    exec i (s.setMask m) = mapNext (fun t => t.setMask m) (exec i s)

/-- R150, R122: W STATUS is accepted and changes nothing. -/
def Obligations.WriteStatusChangesNothing : Prop :=
  ∀ (d : Byte) (s : State),
    encode (.wStatus d) = 0x200#13 ||| d.setWidth 13 ∧ exec (.wStatus d) s = .next s

/-- R145, R146: R STATUS returns STATUS as it was, then clears VBLANK and forces both toggles; all else is unchanged.
So an immediately following R STATUS returns VBLANK 0; and in a state of the invariant bits 4:0 of the result are 0.
-/
def Obligations.ReadStatusSnapshotThenSideEffects : Prop :=
  (∀ x : Byte, decode (0xA00#13 ||| x.setWidth 13) = .ok .rStatus) ∧
  ∀ s : State, ∃ t u, exec .rStatus s = .next t ∧ exec .rStatus t = .next u ∧
    t.result = some s.status ∧
    t.status.getLsbD 7 = false ∧ (∀ k, k < 7 → t.status.getLsbD k = s.status.getLsbD k) ∧
    t.addrW = .expectHigh ∧ t.scrollW = .expectHigh ∧
    t = { s with result := t.result, status := t.status, addrW := t.addrW, scrollW := t.scrollW } ∧
    u.result = some (s.status &&& 0x7F#8) ∧
    (s.Inv → ∀ v, t.result = some v → v.extractLsb' 0 5 = 0#5)

/-- R151, R123: ENVSTAT, the timing collaborator's, sets the three status flags and nothing else; an operand with a
low bit set is refused before any change. -/
def Obligations.EnvStatSetsTheFlags : Prop :=
  ∀ (f : Byte) (s : State),
    encode (.envStat f) = 0x1100#13 ||| f.setWidth 13 ∧ agentOf (.envStat f) = .timingCollaborator ∧
    (f.extractLsb' 0 5 = 0#5 → ∃ t, exec (.envStat f) s = .next t ∧
      t.status.getLsbD 7 = f.getLsbD 7 ∧ t.status.getLsbD 6 = f.getLsbD 6 ∧ t.status.getLsbD 5 = f.getLsbD 5 ∧
      (∀ k, k < 5 → t.status.getLsbD k = s.status.getLsbD k) ∧ t = { s with status := t.status }) ∧
    (f.extractLsb' 0 5 ≠ 0#5 →
      exec (.envStat f) s = .refused (.reservedEncoding (0x1100#13 ||| f.setWidth 13)) ∧
      decode (0x1100#13 ||| f.setWidth 13) = .error (.reservedEncoding (0x1100#13 ||| f.setWidth 13)))

/-- R235 and the consequences the spec infers in R236: the NMI request is the level NMI and VBLANK, and only W CTRL, R
STATUS and ENVSTAT move it. -/
def Obligations.NmiRequestLevel : Prop :=
  (∀ s : State, s.nmiRequested = (s.ctrl.getLsbD 7 && s.status.getLsbD 7)) ∧
  ∀ (i : Instr) (s t : State), exec i s = .next t →
    t.nmiRequested =
      (match i with
       | .wCtrl d => d.getLsbD 7 && s.vblank
       | .rStatus => false
       | .envStat f => s.nmiEnabled && f.getLsbD 7
       | _ => s.nmiRequested)

/-! ### Latches (spec/41_latch_ports.md) -/

/-- R170: W ADDR replaces the slot ADDR_W selects, masked to 14 bits, keeps the other slot, and flips ADDR_W. -/
def Obligations.WriteAddressFillsASlot : Prop :=
  ∀ (d : Byte) (s : State),
    encode (.wAddr d) = 0x600#13 ||| d.setWidth 13 ∧
    ∃ t, exec (.wAddr d) s = .next t ∧ t = { s with addr := t.addr, addrW := t.addrW } ∧
      (s.addrW = .expectHigh →
        t.addr.extractLsb' 8 6 = d.extractLsb' 0 6 ∧ t.addr.extractLsb' 0 8 = s.addr.extractLsb' 0 8 ∧
        t.addrW = .expectLow) ∧
      (s.addrW = .expectLow →
        t.addr.extractLsb' 8 6 = s.addr.extractLsb' 8 6 ∧ t.addr.extractLsb' 0 8 = d ∧ t.addrW = .expectHigh)

/-- R172: W SCROLL replaces the slot SCROLL_W selects, unmasked, keeps the other slot, and flips SCROLL_W; and the
scroll bytes affect nothing: with others every other operation does the same. -/
def Obligations.WriteScrollFillsASlot : Prop :=
  (∀ (d : Byte) (s : State),
    encode (.wScroll d) = 0x500#13 ||| d.setWidth 13 ∧
    (s.scrollW = .expectHigh → exec (.wScroll d) s = .next { s with scroll0 := d, scrollW := .expectLow }) ∧
    (s.scrollW = .expectLow → exec (.wScroll d) s = .next { s with scroll1 := d, scrollW := .expectHigh })) ∧
  ∀ (i : Instr) (s : State) (a b : Byte), (∀ d, i ≠ .wScroll d) →
    exec i { s with scroll0 := a, scroll1 := b } = mapNext (fun t => { t with scroll0 := a, scroll1 := b }) (exec i s)

/-- R169: each toggle flips on a write to its own port, is forced by R STATUS, moves on nothing else, and starts at
EXPECT_HIGH. -/
def Obligations.ToggleStateMachine : Prop :=
  (∀ p t, construct p = .next t → t.addrW = .expectHigh ∧ t.scrollW = .expectHigh) ∧
  ∀ (i : Instr) (s t : State), exec i s = .next t →
    t.addrW = (match i with
      | .wAddr _ => (if s.addrW = .expectHigh then .expectLow else .expectHigh)
      | .rStatus => .expectHigh
      | _ => s.addrW) ∧
    t.scrollW = (match i with
      | .wScroll _ => (if s.scrollW = .expectHigh then .expectLow else .expectHigh)
      | .rStatus => .expectHigh
      | _ => s.scrollW)

/-- The spec's worked examples, spec/95 L1-1, L1-2, L1-8: a pair of address writes gives `(a<<8 | b) & 0x3FFF`, a
third replaces the high byte at once. -/
def Obligations.AddressPairCombines : Prop :=
  ∀ (a b c : Byte) (s : State), s.addrW = .expectHigh → ∃ t u,
    execAll [.wAddr a, .wAddr b] s = .next t ∧ exec (.wAddr c) t = .next u ∧
    t.addr.toNat = (a.toNat * 256 + b.toNat) % 0x4000 ∧ u.addr.toNat = (c.toNat * 256 + b.toNat) % 0x4000

/-- R166: the increment adds the step and wraps at 14 bits; no toggle or scroll byte changes. -/
def Obligations.AddressIncrementWraps : Prop :=
  ∀ (s : State) (k : PpuAddr), k = 1#14 ∨ k = 32#14 →
    (s.incrementAddr k).addr.toNat = (s.addr.toNat + k.toNat) % 0x4000 ∧
    s.incrementAddr k = { s with addr := (s.incrementAddr k).addr }

/-- From R148 and R170: after R STATUS the next W ADDR and W SCROLL pairs are each first byte then second byte. -/
def Obligations.StatusReadRestartsThePairs : Prop :=
  ∀ (x y p q : Byte) (s : State), ∃ t, execAll [.rStatus, .wAddr x, .wAddr y, .wScroll p, .wScroll q] s = .next t ∧
    t.addr.toNat = (x.toNat * 256 + y.toNat) % 0x4000 ∧ t.scroll0 = p ∧ t.scroll1 = q ∧
    t.addrW = .expectHigh ∧ t.scrollW = .expectHigh

/-- The spec's inference R289: a W SCROLL and a W ADDR may change places. -/
def Obligations.IndependentToggles : Prop :=
  ∀ (a b : Byte) (s : State), ∃ t,
    execAll [.wAddr a, .wScroll b] s = .next t ∧ execAll [.wScroll b, .wAddr a] s = .next t

/-- The spec's inference R286: a W DATA between the two writes of a pair stores at the half-written address, its
increment may carry into the high byte, and the second write then replaces the low byte only. -/
def Obligations.HalfWrittenAddress : Prop :=
  ∀ (a d b : Byte) (s t u : State), s.addrW = .expectHigh →
    exec (.wAddr a) s = .next t → exec (.wData d) t = .next u →
    t.addr.toNat = (a.toNat * 256 + (s.addr.extractLsb' 0 8).toNat) % 0x4000 ∧
    u.addr = t.addr + s.incrementStep ∧
    (∀ pl, t.storePlace t.addr = some pl → s.Canonical → u.readPlace pl = d) ∧
    ∃ v, exec (.wAddr b) u = .next v ∧ v.addrW = .expectHigh ∧
      v.addr.extractLsb' 8 6 = u.addr.extractLsb' 8 6 ∧ v.addr.extractLsb' 0 8 = b

/-- What the pseudo-operations of R127 leave, as the notes of its table say. -/
def Obligations.PseudoOperationsExpand : Prop :=
  ∀ (v : PpuAddr) (a b : Byte) (s : State),
    (∃ t, execAll (expand .resetW) s = .next t ∧ t.addrW = .expectHigh ∧ t.scrollW = .expectHigh ∧ t.vblank = false) ∧
    (∃ t, execAll (expand (.setAddr v)) s = .next t ∧ t.addr = v ∧ t.addrW = .expectHigh) ∧
    (s.addrW = .expectHigh →
      execAll (expand (.setAddrNR v)) s = .next { s with addr := v, addrW := .expectHigh }) ∧
    (∃ t, execAll (expand (.setScroll a b)) s = .next t ∧ t.scroll0 = a ∧ t.scroll1 = b ∧ t.scrollW = .expectHigh) ∧
    (s.outOfRange s.addr = false → s.addr.toNat < 0x3F00 →
      ∃ t, execAll (expand .prime) s = .next t ∧ t.rdbuf = s.readPlace (s.place s.addr) ∧
        t.addr = s.addr + s.incrementStep)

/-- R163, R164, R165: `resetToggle`, `get16` and `set16` of the latches. -/
def Obligations.LatchPrimitives : Prop :=
  (∀ s : State,
    s.resetToggles = { s with addrW := .expectHigh, scrollW := .expectHigh } ∧
    s.addrGet16.toNat = s.addr.toNat ∧ s.addrGet16.toNat ≤ 0x3FFF ∧
    s.scrollGet16.toNat = s.scroll0.toNat * 256 + s.scroll1.toNat) ∧
  (∀ (s : State) (v : BitVec 16),
    (s.addrSet16 v).addr.toNat = v.toNat % 0x4000 ∧ s.addrSet16 v = { s with addr := (s.addrSet16 v).addr }) ∧
  ∀ (i : Instr) (s t : State), exec i s = .next t → i ≠ .rStatus →
    (s.addrW = .expectLow → t.addrW = .expectLow ∨ ∃ d, i = .wAddr d) ∧
    (s.scrollW = .expectLow → t.scrollW = .expectLow ∨ ∃ d, i = .wScroll d)

/-! ### Memory (spec/20_memory.md) -/

/-- R74: every address of the PPU space selects exactly one byte of one store, by the fixed ranges. -/
def Obligations.RegionDecode : Prop :=
  ∀ (s : State) (a : PpuAddr),
    (a.toNat ≤ 0x1FFF → s.place a = .chr a.toNat) ∧
    (0x2000 ≤ a.toNat ∧ a.toNat ≤ 0x3EFF → s.place a = .nt (mirrorDecode s.mirrorMode a).toNat) ∧
    (0x3F00 ≤ a.toNat → s.place a = .pal ((a.toNat - 0x3F00) % 32)) ∧
    (a.toNat ≤ 0x1FFF ∨ (0x2000 ≤ a.toNat ∧ a.toNat ≤ 0x3EFF) ∨ 0x3F00 ≤ a.toNat)

/-- The closed form the spec infers in R84. -/
def Obligations.MirrorClosedForm : Prop :=
  ∀ (mode : MirrorMode) (a : PpuAddr), 0x2000 ≤ a.toNat → a.toNat ≤ 0x3EFF →
    (mirrorDecode mode a).toNat =
      a.toNat % 0x400 + 0x400 * (match mode with
        | .horizontal => (a.getLsbD 11).toNat
        | .vertical => (a.getLsbD 10).toNat)

/-- R83: the four quadrants go to the physical tables 0, 0, 1, 1 (Horizontal) and 0, 1, 0, 1 (Vertical), at the same
offset; 0x3000 to 0x3EFF is folded onto 0x2000 to 0x2EFF (R81). -/
def Obligations.QuadrantsGoToPhysicalTables : Prop :=
  ∀ (a : PpuAddr) (o : Nat) (q : Fin 4), o < 0x400 →
    (a.toNat = 0x2000 + q.val * 0x400 + o ∨ (a.toNat = 0x3000 + q.val * 0x400 + o ∧ a.toNat ≤ 0x3EFF)) →
    (mirrorDecode .horizontal a).toNat = o + 0x400 * [0, 0, 1, 1].get q ∧
    (mirrorDecode .vertical a).toNat = o + 0x400 * [0, 1, 0, 1].get q

/-- The spec's inference R86: each physical offset is reached by two logical addresses of 0x2000 to 0x2FFF, and 0x3F00
to 0x3FFF reaches none. -/
def Obligations.PhysicalOffsetsAreReachedTwice : Prop :=
  (∀ (mode : MirrorMode) (p : NtOffset), ∃ a b : PpuAddr, a ≠ b ∧
    0x2000 ≤ a.toNat ∧ a.toNat ≤ 0x2FFF ∧ 0x2000 ≤ b.toNat ∧ b.toNat ≤ 0x2FFF ∧
    mirrorDecode mode a = p ∧ mirrorDecode mode b = p) ∧
  ∀ (s : State) (a : PpuAddr) (k : Nat), 0x3F00 ≤ a.toNat → s.place a ≠ .nt k

/-- R75: the read of one byte of the PPU space. -/
def Obligations.MemReadByRegion : Prop :=
  ∀ (s : State) (a : PpuAddr),
    s.memRead a =
      (if a.toNat ≤ 0x1FFF then
        (if a.toNat < s.chrSize then .ok (s.chr.read a.toNat) else .error (.patternOutOfRange a))
       else if a.toNat ≤ 0x3EFF then .ok (s.nt.read (mirrorDecode s.mirrorMode a).toNat)
       else .ok (s.pal.read (a.extractLsb' 0 5).toNat))

/-- R76: the write of one byte of the PPU space writes one byte of one store, or nothing. -/
def Obligations.MemWriteByRegion : Prop :=
  ∀ (s : State) (a : PpuAddr) (v : Byte),
    s.memWrite a v =
      (if a.toNat ≤ 0x1FFF then
        (if s.chrWritable = true then
          (if a.toNat < s.chrSize then .ok (s.writePlace (.chr a.toNat) v) else .error (.patternOutOfRange a))
         else .ok s)
       else if a.toNat ≤ 0x3EFF then .ok (s.writePlace (.nt (mirrorDecode s.mirrorMode a).toNat) v)
       else .ok (s.writePlace (.pal (a.extractLsb' 0 5).toNat) v))

/-- Derived from R30 and R76: a write to one place of the four stores, then a read: the byte written there, and the
old byte everywhere else. -/
def Obligations.ReadAfterWrite : Prop :=
  ∀ (s : State) (pl ql : Place) (v : Byte),
    (s.Canonical → (s.writePlace pl v).readPlace pl = v) ∧
    (ql ≠ pl → (s.writePlace pl v).readPlace ql = s.readPlace ql)

/-- R77: the palette range repeats 32 distinct entries, without aliases among them, and all 8 bits are stored. -/
def Obligations.PaletteEntriesAreDistinct : Prop :=
  ∀ (s : State) (a b : PpuAddr) (d : Byte), 0x3F00 ≤ a.toNat → 0x3F00 ≤ b.toNat → s.addr = a →
    (a.toNat - 0x3F00) % 32 = (a.extractLsb' 0 5).toNat ∧ s.place a = .pal (a.extractLsb' 0 5).toNat ∧
    (s.place a = s.place b ↔ a.extractLsb' 0 5 = b.extractLsb' 0 5) ∧
    (s.Canonical → ∃ t, exec (.wData d) s = .next t ∧ t.readPlace (s.place a) = d ∧
      (a.extractLsb' 0 5 ≠ b.extractLsb' 0 5 → t.readPlace (s.place b) = s.readPlace (s.place b)))

/-- R79: R DATA, and W DATA when CHR_WRITABLE, fault exactly at a pattern address at or past CHR_SIZE, and the state
keeps every element; no address of the PPU space reaches CHR past 0x1FFF. -/
def Obligations.PatternRangeFaults : Prop :=
  ∀ (s : State) (d : Byte) (k : Fault),
    (exec .rData s = .fault k ↔ s.addr.toNat ≤ 0x1FFF ∧ s.chrSize ≤ s.addr.toNat ∧ k = .patternOutOfRange s.addr) ∧
    (exec (.wData d) s = .fault k ↔
      s.chrWritable = true ∧ s.addr.toNat ≤ 0x1FFF ∧ s.chrSize ≤ s.addr.toNat ∧ k = .patternOutOfRange s.addr) ∧
    (exec .rData s = .fault k → s.record (exec .rData s) = { s with faultMark := some (.patternOutOfRange s.addr) }) ∧
    (exec (.wData d) s = .fault k →
      s.record (exec (.wData d) s) = { s with faultMark := some (.patternOutOfRange s.addr) }) ∧
    (∀ (a : PpuAddr) (n : Nat), s.place a = .chr n → n = a.toNat ∧ n < 0x2000)

/-! ### Data port (spec/42_data_port.md) -/

/-- R190, R191, R78: W DATA stores the byte where its address says, if anywhere, and then advances ADDR by the step;
all else is unchanged, RDBUF among it. -/
def Obligations.WriteDataStoresThenAdvances : Prop :=
  ∀ (d : Byte) (s : State),
    encode (.wData d) = 0x700#13 ||| d.setWidth 13 ∧
    (¬(s.addr.toNat ≤ 0x1FFF ∧ s.chrWritable = true ∧ s.chrSize ≤ s.addr.toNat) →
      (s.addr.toNat ≤ 0x1FFF ∧ s.chrWritable = false →
        exec (.wData d) s = .next { s with addr := s.addr + (if s.ctrl.getLsbD 2 then 32#14 else 1#14) }) ∧
      (¬(s.addr.toNat ≤ 0x1FFF ∧ s.chrWritable = false) →
        exec (.wData d) s = .next { s.writePlace (s.place s.addr) d with
          addr := s.addr + (if s.ctrl.getLsbD 2 then 32#14 else 1#14) })) ∧
    (s.addr.toNat ≤ 0x1FFF ∧ s.chrWritable = true ∧ s.chrSize ≤ s.addr.toNat →
      exec (.wData d) s = .fault (.patternOutOfRange s.addr) ∧
      s.record (exec (.wData d) s) = { s with faultMark := some (.patternOutOfRange s.addr) })

/-- R192, R193: R DATA from 0x3F00 returns the palette byte at once; below it returns RDBUF and refills it from the
address before the increment; both advance ADDR by the step; all else is unchanged. -/
def Obligations.ReadDataBuffersBelowThePalette : Prop :=
  (∀ x : Byte, decode (0xF00#13 ||| x.setWidth 13) = .ok .rData) ∧
  ∀ s : State,
    (0x3F00 ≤ s.addr.toNat →
      exec .rData s = .next { s with
        result := some (s.pal.read (s.addr.extractLsb' 0 5).toNat)
        addr := s.addr + (if s.ctrl.getLsbD 2 then 32#14 else 1#14) }) ∧
    (s.addr.toNat < 0x3F00 → ¬(s.addr.toNat ≤ 0x1FFF ∧ s.chrSize ≤ s.addr.toNat) →
      exec .rData s = .next { s with
        result := some s.rdbuf
        rdbuf := s.readPlace (s.place s.addr)
        addr := s.addr + (if s.ctrl.getLsbD 2 then 32#14 else 1#14) }) ∧
    (s.addr.toNat ≤ 0x1FFF ∧ s.chrSize ≤ s.addr.toNat →
      exec .rData s = .fault (.patternOutOfRange s.addr) ∧
      s.record (exec .rData s) = { s with faultMark := some (.patternOutOfRange s.addr) })

/-- The spec's inference R195: a run of `n + 1` buffered reads. -/
def Obligations.BufferedReadRun : Prop :=
  ∀ (s : State) (n : Nat),
    (∀ k, k ≤ n → (s.addr + BitVec.ofNat 14 k * s.incrementStep).toNat < 0x3F00 ∧
      s.outOfRange (s.addr + BitVec.ofNat 14 k * s.incrementStep) = false) →
    ∃ t, execAll (List.replicate (n + 1) .rData) s = .next t ∧
      t.result = some (match n with
        | 0 => s.rdbuf
        | m + 1 => s.readPlace (s.place (s.addr + BitVec.ofNat 14 m * s.incrementStep))) ∧
      t.rdbuf = s.readPlace (s.place (s.addr + BitVec.ofNat 14 n * s.incrementStep)) ∧
      t.addr = s.addr + BitVec.ofNat 14 (n + 1) * s.incrementStep ∧
      t = { s with result := t.result, rdbuf := t.rdbuf, addr := t.addr }

/-- The spec's inference R284: RDBUF keeps the old byte through a W DATA to the address it was loaded from; after
priming again, the byte written is read. -/
def Obligations.ReadBufferIsNotCoherent : Prop :=
  ∀ (s : State) (x : PpuAddr) (d : Byte), x.toNat < 0x3F00 → s.outOfRange x = false → s.addr = x →
    ∃ t, execAll ([.rData] ++ expand (.setAddr x) ++ [.wData d] ++ expand (.setAddr x) ++ [.rData]) s = .next t ∧
      t.result = some (s.readPlace (s.place x)) ∧
      (s.Canonical → s.storePlace x = some (s.place x) → ∀ u,
        execAll (expand (.setAddr x) ++ expand .prime ++ expand (.setAddr x) ++ [.rData]) t = .next u → u.result = some d)

/-- A buffered R DATA loads RDBUF with the byte the rendering collaborator's query shows at that address, and a query
shows what a W DATA stored (R230, R231). -/
def Obligations.QueriesShowTheStores : Prop :=
  ∀ (s t : State) (v d : Byte),
    ((s.peekNametable s.addr = some v ∨ s.peekPattern s.addr = some v) → exec .rData s = .next t → t.rdbuf = v) ∧
    (s.Canonical → regionOf s.addr = .nametable → exec (.wData d) s = .next t →
      t.peekNametable s.addr = some d) ∧
    (s.Canonical → regionOf s.addr = .palette → exec (.wData d) s = .next t →
      t.peekPalette (s.addr.extractLsb' 0 5) = d)

/-- R231, R232: what the queries of the stores, the scroll latch and OAM return. -/
def Obligations.QueriesReturnTheBytes : Prop :=
  ∀ (s : State) (a : PpuAddr) (i : BitVec 5) (j : Byte),
    (0x2000 ≤ a.toNat ∧ a.toNat ≤ 0x3EFF → s.peekNametable a = some (s.nt.read (mirrorDecode s.mirrorMode a).toNat)) ∧
    s.peekPalette i = s.pal.read i.toNat ∧
    (a.toNat ≤ 0x1FFF → s.peekPattern a = if a.toNat < s.chrSize then some (s.chr.read a.toNat) else none) ∧
    s.peekScroll = (s.scroll0, s.scroll1) ∧ s.peekOam j = s.oam.read j.toNat

/-! ### OAM (spec/43_oam_dma.md) -/

/-- R210: W OAMADDR sets the pointer and nothing else. -/
def Obligations.WriteOamAddressSetsThePointer : Prop :=
  ∀ (d : Byte) (s : State),
    encode (.wOamAddr d) = 0x300#13 ||| d.setWidth 13 ∧ exec (.wOamAddr d) s = .next { s with oamAddr := d }

/-- R211: W OAMDATA stores at the pointer, which then wraps at 256; all else is unchanged. 256 in a row from any
pointer write every byte of OAM and leave the pointer where it was; 255 leave it one before (C4). -/
def Obligations.WriteOamDataStoresAndWraps : Prop :=
  (∀ (d : Byte) (s : State),
    encode (.wOamData d) = 0x400#13 ||| d.setWidth 13 ∧
    ∃ t, exec (.wOamData d) s = .next t ∧
      t.oamAddr.toNat = (s.oamAddr.toNat + 1) % 256 ∧
      (s.Canonical → t.readPlace (.oam s.oamAddr.toNat) = d) ∧
      (∀ pl, pl ≠ .oam s.oamAddr.toNat → t.readPlace pl = s.readPlace pl) ∧
      t = { s with oam := t.oam, oamAddr := t.oamAddr }) ∧
  ∀ (s : State) (f : Nat → Byte), s.Canonical →
    (∃ t, execAll ((List.range 256).map fun k => Instr.wOamData (f k)) s = .next t ∧ t.oamAddr = s.oamAddr ∧
      ∀ k, k < 256 → t.readPlace (.oam ((s.oamAddr.toNat + k) % 256)) = f k) ∧
    (∃ t, execAll ((List.range 255).map fun k => Instr.wOamData (f k)) s = .next t ∧ t.oamAddr = s.oamAddr - 1)

/-- R212: R OAMDATA returns the byte at the pointer and changes no state element. -/
def Obligations.ReadOamDataReturnsTheByte : Prop :=
  (∀ x : Byte, decode (0xC00#13 ||| x.setWidth 13) = .ok .rOamData) ∧
  ∀ s : State, exec .rOamData s = .next { s with result := some (s.readPlace (.oam s.oamAddr.toNat)) }

/-- R213, R214: OAMDMA fills OAM from index 0 with the source page and leaves OAMADDR; a byte no premise fixes is a
free value, of which nothing is stated (log 1). -/
def Obligations.OamDmaCopiesThePage : Prop :=
  ∀ (p : Byte) (s : State), s.supplier.reentrant = none →
    encode (.oamDma p) = 0x1000#13 ||| p.setWidth 13 ∧
    ∃ t, exec (.oamDma p) s = .next t ∧
      (s.Canonical → ∀ i, i < 256 → t.readPlace (.oam i) = s.cpuMemRead (BitVec.ofNat 16 (p.toNat * 256 + i))) ∧
      (∀ i b, i < 256 → Memory.lookup s.supplier.known (p.toNat * 256 + i) = some b →
        s.cpuMemRead (BitVec.ofNat 16 (p.toNat * 256 + i)) = b) ∧
      (∀ pl, (∀ i, i < 256 → pl ≠ .oam i) → t.readPlace pl = s.readPlace pl) ∧
      t.oamAddr = s.oamAddr ∧ t = { s with oam := t.oam, draws := s.draws + 1 }

/-- R217: an OAMDMA whose supplier issues an operation is refused, naming that operation's word. (A reserved word is
no operation: the next statement.) -/
def Obligations.ReentrantSupplierIsRefused : Prop :=
  ∀ (p : Byte) (s : State) (w : OpWord) (j : Instr), s.supplier.reentrant = some w → decode w = .ok j →
    exec (.oamDma p) s = .refused (.reentrantAccess w) ∧ refusalCode (.reentrantAccess w) = some 17

/-- A step on an OAMDMA whose supplier issues any word, a reserved one too (the model's choice, log 23), is refused with
it, and leaves the first `m` copies done for some `m`, which the spec's inference R255 leaves unspecified (a free value,
log 2), every other byte and element as it was, and the mark set. That the operation stays on the list is log 9. -/
def Obligations.ReentrantRefusalLeavesSomeCopies : Prop :=
  ∀ (s : State) (q : Issue) (rest : List Issue) (p : Byte) (w : OpWord),
    s.faultMark = none → s.refusedMark = none → s.pending = q :: rest → decode q.word = .ok (.oamDma p) →
    q.supplier.reentrant = some w →
    step s = .refused (.reentrantAccess w) ∧
    s.after = { s with refusedMark := some (.reentrantAccess w), oam := s.after.oam } ∧
    ∃ m, m ≤ 256 ∧
      (s.Canonical → ∀ i, i < m → s.after.readPlace (.oam i) =
        ({ s with supplier := q.supplier } : State).cpuMemRead (BitVec.ofNat 16 (p.toNat * 256 + i))) ∧
      ∀ i, m ≤ i → s.after.readPlace (.oam i) = s.readPlace (.oam i)

/-! ### The whole machine -/

/-- The written elements of the access matrix (R33, the spec's own inference from the operation rules): an element
that an operation changes is one the matrix lets it write. CHR_SIZE, MIRROR_MODE, CHR_WRITABLE and the marks are
written by none. -/
def Obligations.OnlyTheMatrixWrites : Prop :=
  ∀ (i : Instr) (s t : State), exec i s = .next t →
    (t.ctrl = s.ctrl ∨ ∃ d, i = .wCtrl d) ∧ (t.mask = s.mask ∨ ∃ d, i = .wMask d) ∧
    (t.status = s.status ∨ i = .rStatus ∨ ∃ f, i = .envStat f) ∧
    (t.oamAddr = s.oamAddr ∨ (∃ d, i = .wOamAddr d) ∨ ∃ d, i = .wOamData d) ∧
    (t.addr = s.addr ∨ (∃ d, i = .wAddr d) ∨ (∃ d, i = .wData d) ∨ i = .rData) ∧
    (t.addrW = s.addrW ∨ i = .rStatus ∨ ∃ d, i = .wAddr d) ∧
    ((t.scroll0 = s.scroll0 ∧ t.scroll1 = s.scroll1) ∨ ∃ d, i = .wScroll d) ∧
    (t.scrollW = s.scrollW ∨ i = .rStatus ∨ ∃ d, i = .wScroll d) ∧
    (t.rdbuf = s.rdbuf ∨ i = .rData) ∧
    ((t.nt = s.nt ∧ t.pal = s.pal) ∨ ∃ d, i = .wData d) ∧
    (t.oam = s.oam ∨ (∃ d, i = .wOamData d) ∨ ∃ p, i = .oamDma p) ∧
    (t.chr = s.chr ∨ (s.chrWritable = true ∧ ∃ d, i = .wData d)) ∧
    t.chrSize = s.chrSize ∧ t.mirrorMode = s.mirrorMode ∧ t.chrWritable = s.chrWritable ∧
    t.faultMark = s.faultMark ∧ t.refusedMark = s.refusedMark ∧ t.pending = s.pending ∧ t.supplier = s.supplier

/-- The frame of memory, derived from the rule of each operation (R140 to R151, R170, R172, R190, R192, R210 to R213)
and gathered in R33, the spec's own inference: every byte of the four stores is unchanged but the one W DATA stores
to, the one W OAMDATA stores to, and the 256 OAM bytes of OAMDMA. -/
def Obligations.OnlyTheStoredByteChanges : Prop :=
  ∀ (i : Instr) (s t : State) (pl : Place), exec i s = .next t →
    (match i with
     | .wData _ => s.storePlace s.addr ≠ some pl
     | .wOamData _ => pl ≠ .oam s.oamAddr.toNat
     | .oamDma _ => ∀ k, k < 256 → pl ≠ .oam k
     | _ => True) →
    t.readPlace pl = s.readPlace pl

/-- R35: of CTRL the operations read INC only, and the NMI request NMI only: with another CTRL of the same bit 2 every
operation does the same, and with one of the same bit 7 the request is the same. -/
def Obligations.ControlIsReadThroughIncOnly : Prop :=
  ∀ (s : State) (c : Byte),
    (∀ i : Instr, (∀ d, i ≠ .wCtrl d) → c.getLsbD 2 = s.ctrl.getLsbD 2 →
      exec i (s.setCtrl c) = mapNext (fun t => t.setCtrl c) (exec i s)) ∧
    (c.getLsbD 7 = s.ctrl.getLsbD 7 → (s.setCtrl c).nmiRequested = s.nmiRequested)

/-- The spec's inference R256: among decoded operations only R DATA and W DATA fault, each for one reason; a decoded
operation is refused only as a re-entrant OAMDMA. That a reserved re-entrant word is no other reason is the model's
choice (log 23). -/
def Obligations.StopsHaveOneReason : Prop :=
  ∀ (w : OpWord) (i : Instr) (s : State), decode w = .ok i →
    (∀ k, exec i s = .fault k → (i = .rData ∨ ∃ d, i = .wData d) ∧ k = .patternOutOfRange s.addr) ∧
    (∀ k, exec i s = .refused k → ∃ p v, i = .oamDma p ∧ s.supplier.reentrant = some v ∧ k = .reentrantAccess v)

/-- The invariant the spec infers in R57, with canonical stores inside their sizes (the model's form of a store, log
4): every step keeps it. -/
def Obligations.EveryStepKeepsTheInvariant : Prop :=
  ∀ s t : State, s.Inv → step s = .next t → t.Inv

/-- The state `State.reset` names meets the invariant, and it is what construction gives from the parameters the log
names. Those parameters are the model's choice (log 3, log 4, log 5), not the spec's. -/
def Obligations.ResetMeetsInv : Prop :=
  State.reset.Inv ∧ construct Config.resetParams = .next State.reset

/-- Every construction meets the invariant, whatever the parameters and the draws, and no NMI is requested at first:
the spec's inferences R57 and R280, with the model's canonical form and size of a store (log 4). -/
def Obligations.EveryConstructionMeetsInv : Prop :=
  ∀ (p : Params) (t : State), construct p = .next t → t.Inv ∧ t.nmiRequested = false

/-- R56, R241: what construction leaves in every element, for every pattern memory, mode, and draw; an empty pattern
memory is refused. -/
def Obligations.ConstructionValues : Prop :=
  ∀ p : Params,
    (p.chr.length = 0 → construct p = .refused .emptyPatternMemory) ∧
    (p.chr.length ≠ 0 → ∃ t, construct p = .next t ∧
      t.ctrl = 0x00 ∧ t.mask = 0x00 ∧ t.status = 0x00 ∧ t.oamAddr = 0x00 ∧ t.addr = 0x0000 ∧
      t.addrW = .expectHigh ∧ t.scroll0 = 0x00 ∧ t.scroll1 = 0x00 ∧ t.scrollW = .expectHigh ∧
      t.rdbuf = p.initRdbuf ∧ t.faultMark = none ∧ t.refusedMark = none ∧
      t.chrSize = p.chr.length ∧ t.mirrorMode = p.mirrorMode ∧ t.chrWritable = p.chrWritable ∧
      (∀ i (h : i < 2048), t.readPlace (.nt i) = p.initNt[i]) ∧ (∀ i (h : i < 32), t.readPlace (.pal i) = p.initPal[i]) ∧
      (∀ i (h : i < 256), t.readPlace (.oam i) = p.initOam[i]) ∧
      ∀ i (h : i < p.chr.length), t.readPlace (.chr i) = p.chr[i])

/-- From R52 and R242, and for CHR_SIZE from R14 and the spec's own inference R57: no step changes MIRROR_MODE,
CHR_WRITABLE or CHR_SIZE. That they are fields of State is the model's choice (log 13). -/
def Obligations.ParametersAreFixed : Prop :=
  ∀ s t : State, step s = .next t →
    t.mirrorMode = s.mirrorMode ∧ t.chrWritable = s.chrWritable ∧ t.chrSize = s.chrSize
end

