-- ==== Sys2Proof/Laws/Memory.lean ====
section
/-! SUPPORT. The laws of one store: what a read sees after a write, and that every operation keeps the canonical form. -/

namespace Sys2Proof.Machine

/-! ### Reading after writing -/

/-- A write to one index leaves every other index as it was, in any store, canonical or not. -/
theorem Memory.lookup_write_other (m : Memory) (a b : Nat) (v : Byte) (h : b ≠ a) :
    Memory.lookup (m.write a v) b = Memory.lookup m b := by
  induction m with
  | nil => simp only [Memory.write]; split <;> simp [Memory.lookup, h]
  | cons c m ih =>
    obtain ⟨k, w⟩ := c
    simp only [Memory.write]
    split
    · split <;> simp [Memory.lookup, h]
    · split
      · rename_i e; subst e; split <;> simp [Memory.lookup, h]
      · simp [Memory.lookup, ih]

theorem Memory.read_write_other (m : Memory) (a b : Nat) (v : Byte) (h : b ≠ a) :
    (m.write a v).read b = m.read b := by
  simp [Memory.read, Memory.lookup_write_other m a b v h]

/-- An index below every listed one is not listed. -/
theorem Memory.lookup_none_of_lt (m : Memory) (a : Nat) (h : ∀ c ∈ m, a < c.1) : Memory.lookup m a = none := by
  induction m with
  | nil => rfl
  | cons c m ih =>
    obtain ⟨k, w⟩ := c
    have hk : a < k := h (k, w) (by simp)
    simp [Memory.lookup, Nat.ne_of_lt hk, ih fun c hc => h c (by simp [hc])]

theorem Memory.wf_tail {c : Host.Cell} {m : Memory} (h : Memory.wf (c :: m)) : Memory.wf m :=
  ⟨(List.pairwise_cons.1 h.1).2, fun d hd => h.2 d (by simp [hd])⟩

/-- In a canonical store the written index reads the written byte. -/
theorem Memory.read_write_same (m : Memory) (a : Nat) (v : Byte) (h : Memory.wf m) : (m.write a v).read a = v := by
  induction m with
  | nil => simp only [Memory.write]; split <;> simp_all [Memory.read, Memory.lookup]
  | cons c m ih =>
    obtain ⟨k, w⟩ := c
    have hlt := (List.pairwise_cons.1 h.1).1
    simp only [Memory.write]
    split
    · rename_i hak
      split
      · rename_i hv
        have hn : Memory.lookup ((k, w) :: m) a = none := Memory.lookup_none_of_lt _ _ fun c hc => by
          rcases List.mem_cons.1 hc with rfl | hc
          · exact hak
          · exact Nat.lt_trans hak (hlt c hc)
        simp [Memory.read, hn, hv]
      · simp [Memory.read, Memory.lookup]
    · split
      · rename_i e; subst e
        split
        · rename_i hv
          have hn : Memory.lookup m a = none := Memory.lookup_none_of_lt _ _ fun c hc => hlt c hc
          simp [Memory.read, hn, hv]
        · simp [Memory.read, Memory.lookup]
      · rename_i hne
        have := ih (Memory.wf_tail h)
        simpa [Memory.read, Memory.lookup, hne] using this

/-! ### The canonical form is kept -/

/-- Every cell of a written store is an old cell or the new one, which does not hold the unlisted value. -/
theorem Memory.mem_write {m : Memory} {a : Nat} {v : Byte} {c : Host.Cell} (h : c ∈ m.write a v) :
    c ∈ m ∨ (c = (a, v) ∧ v ≠ Memory.unlisted) := by
  induction m with
  | nil =>
    simp only [Memory.write] at h
    split at h
    · simp at h
    · exact .inr ⟨by simpa using h, by assumption⟩
  | cons d m ih =>
    obtain ⟨k, w⟩ := d
    simp only [Memory.write] at h
    split at h
    · split at h
      · exact .inl h
      · rcases List.mem_cons.1 h with rfl | h
        · exact .inr ⟨rfl, by assumption⟩
        · exact .inl h
    · split at h
      · split at h
        · exact .inl (by simp [h])
        · rcases List.mem_cons.1 h with rfl | h
          · exact .inr ⟨rfl, by assumption⟩
          · exact .inl (by simp [h])
      · rcases List.mem_cons.1 h with rfl | h
        · exact .inl (by simp)
        · rcases ih h with h | h
          · exact .inl (by simp [h])
          · exact .inr h

theorem Memory.write_wf (m : Memory) (a : Nat) (v : Byte) (h : Memory.wf m) : Memory.wf (m.write a v) := by
  refine ⟨?_, fun c hc => ?_⟩
  · induction m with
    | nil => simp only [Memory.write]; split <;> simp
    | cons d m ih =>
      obtain ⟨k, w⟩ := d
      obtain ⟨hlt, hp⟩ := List.pairwise_cons.1 h.1
      simp only [Memory.write]
      split
      · rename_i hak
        split
        · exact h.1
        · refine List.pairwise_cons.2 ⟨fun c hc => ?_, h.1⟩
          rcases List.mem_cons.1 hc with rfl | hc
          · exact hak
          · exact Nat.lt_trans hak (hlt c hc)
      · split
        · rename_i e; subst e
          split
          · exact hp
          · exact List.pairwise_cons.2 ⟨hlt, hp⟩
        · refine List.pairwise_cons.2 ⟨fun c hc => ?_, ih (Memory.wf_tail h)⟩
          rcases Memory.mem_write hc with hc | ⟨rfl, -⟩
          · exact hlt c hc
          · show k < a; omega
  · rcases Memory.mem_write hc with hc | ⟨rfl, hv⟩
    · exact h.2 c hc
    · exact hv

theorem Memory.write_within (n : Nat) (m : Memory) (a : Nat) (v : Byte) (h : Memory.within n m) (ha : a < n) :
    Memory.within n (m.write a v) := fun c hc => by
  rcases Memory.mem_write hc with hc | ⟨rfl, -⟩
  · exact h c hc
  · exact ha

/-! ### fill -/

theorem Memory.fill_succ (m : Memory) (n : Nat) (f : Nat → Byte) : m.fill (n + 1) f = (m.fill n f).write n (f n) := by
  simp [Memory.fill, List.range_succ]

theorem Memory.fill_wf (m : Memory) (n : Nat) (f : Nat → Byte) (h : Memory.wf m) : Memory.wf (m.fill n f) := by
  induction n with
  | zero => exact h
  | succ n ih => rw [Memory.fill_succ]; exact Memory.write_wf _ _ _ ih

theorem Memory.fill_within (k : Nat) (m : Memory) (n : Nat) (f : Nat → Byte) (h : Memory.within k m) (hn : n ≤ k) :
    Memory.within k (m.fill n f) := by
  induction n with
  | zero => exact h
  | succ n ih => rw [Memory.fill_succ]; exact Memory.write_within _ _ _ _ (ih (by omega)) (by omega)

theorem Memory.read_fill_inside (m : Memory) (n : Nat) (f : Nat → Byte) (h : Memory.wf m) (i : Nat) (hi : i < n) :
    (m.fill n f).read i = f i := by
  induction n with
  | zero => omega
  | succ n ih =>
    rw [Memory.fill_succ]
    by_cases e : i = n
    · subst e; exact Memory.read_write_same _ _ _ (Memory.fill_wf _ _ _ h)
    · rw [Memory.read_write_other _ _ _ _ e]; exact ih (by omega)

theorem Memory.read_fill_outside (m : Memory) (n : Nat) (f : Nat → Byte) (i : Nat) (hi : n ≤ i) :
    (m.fill n f).read i = m.read i := by
  induction n with
  | zero => rfl
  | succ n ih => rw [Memory.fill_succ, Memory.read_write_other _ _ _ _ (by omega)]; exact ih (by omega)

/-! ### ofBytes -/

theorem Memory.ofBytesFrom_bounds (l : List Byte) (k : Nat) :
    ∀ c ∈ Memory.ofBytesFrom k l, k ≤ c.1 ∧ c.1 < k + l.length ∧ c.2 ≠ Memory.unlisted := by
  induction l generalizing k with
  | nil => simp [Memory.ofBytesFrom]
  | cons v l ih =>
    intro c hc
    simp only [Memory.ofBytesFrom] at hc
    have step : c ∈ Memory.ofBytesFrom (k + 1) l → _ := fun h => ih (k + 1) c h
    split at hc
    · have := step hc; simp only [List.length_cons]; exact ⟨by omega, by omega, this.2.2⟩
    · rcases List.mem_cons.1 hc with rfl | hc
      · simp only [List.length_cons]; exact ⟨Nat.le_refl _, by omega, by assumption⟩
      · have := step hc; simp only [List.length_cons]; exact ⟨by omega, by omega, this.2.2⟩

theorem Memory.ofBytesFrom_wf (l : List Byte) (k : Nat) : Memory.wf (Memory.ofBytesFrom k l) := by
  refine ⟨?_, fun c hc => (Memory.ofBytesFrom_bounds l k c hc).2.2⟩
  induction l generalizing k with
  | nil => simp [Memory.ofBytesFrom]
  | cons v l ih =>
    simp only [Memory.ofBytesFrom]
    split
    · exact ih _
    · exact List.pairwise_cons.2 ⟨fun c hc => (Memory.ofBytesFrom_bounds l (k + 1) c hc).1, ih _⟩

theorem Memory.ofBytes_wf (l : List Byte) : Memory.wf (Memory.ofBytes l) := Memory.ofBytesFrom_wf l 0

theorem Memory.ofBytes_within (l : List Byte) : Memory.within l.length (Memory.ofBytes l) := fun c hc => by
  have := (Memory.ofBytesFrom_bounds l 0 c hc).2.1; omega

theorem Memory.read_ofBytesFrom (l : List Byte) (k i : Nat) :
    (Memory.ofBytesFrom k l).read (k + i) = l.getD i Memory.unlisted := by
  induction l generalizing k i with
  | nil => simp [Memory.ofBytesFrom, Memory.read, Memory.lookup]
  | cons v l ih =>
    have hlow : Memory.lookup (Memory.ofBytesFrom (k + 1) l) k = none :=
      Memory.lookup_none_of_lt _ _ fun c hc => (Memory.ofBytesFrom_bounds l (k + 1) c hc).1
    simp only [Memory.ofBytesFrom]
    cases i with
    | zero => split <;> simp_all [Memory.read, Memory.lookup]
    | succ i =>
      have e : k + (i + 1) = k + 1 + i := by omega
      split
      · rw [e, ih]; simp
      · have hk : k + 1 + i ≠ k := by omega
        have := ih (k + 1) i
        rw [e]; simpa [Memory.read, Memory.lookup, hk] using this

/-- The store of a list of bytes reads the `i`-th byte at index `i`. -/
theorem Memory.read_ofBytes (l : List Byte) (i : Nat) : (Memory.ofBytes l).read i = l.getD i Memory.unlisted := by
  simpa [Memory.ofBytes] using Memory.read_ofBytesFrom l 0 i

theorem Memory.ofBytesFrom_replicate (n k : Nat) : Memory.ofBytesFrom k (List.replicate n Memory.unlisted) = [] := by
  induction n generalizing k with
  | zero => rfl
  | succ n ih => simp [List.replicate_succ, Memory.ofBytesFrom, ih]

end Sys2Proof.Machine
end

