-- ==== Sys2Proof/Laws/State.lean ====
section
/-! SUPPORT. One lemma per field per update of the state, each true by computation: no later proof unfolds a record
update. -/

namespace Sys2Proof.Machine

variable (s : State)

/-! ### clearVblank -/

@[simp] theorem State.clearVblank_ctrl : s.clearVblank.ctrl = s.ctrl := rfl
@[simp] theorem State.clearVblank_mask : s.clearVblank.mask = s.mask := rfl
@[simp] theorem State.clearVblank_status : s.clearVblank.status = flagSet s.status 7 false := rfl
@[simp] theorem State.clearVblank_oamAddr : s.clearVblank.oamAddr = s.oamAddr := rfl
@[simp] theorem State.clearVblank_addr : s.clearVblank.addr = s.addr := rfl
@[simp] theorem State.clearVblank_addrW : s.clearVblank.addrW = s.addrW := rfl
@[simp] theorem State.clearVblank_scroll0 : s.clearVblank.scroll0 = s.scroll0 := rfl
@[simp] theorem State.clearVblank_scroll1 : s.clearVblank.scroll1 = s.scroll1 := rfl
@[simp] theorem State.clearVblank_scrollW : s.clearVblank.scrollW = s.scrollW := rfl
@[simp] theorem State.clearVblank_rdbuf : s.clearVblank.rdbuf = s.rdbuf := rfl
@[simp] theorem State.clearVblank_nt : s.clearVblank.nt = s.nt := rfl
@[simp] theorem State.clearVblank_pal : s.clearVblank.pal = s.pal := rfl
@[simp] theorem State.clearVblank_oam : s.clearVblank.oam = s.oam := rfl
@[simp] theorem State.clearVblank_chr : s.clearVblank.chr = s.chr := rfl
@[simp] theorem State.clearVblank_chrSize : s.clearVblank.chrSize = s.chrSize := rfl
@[simp] theorem State.clearVblank_mirrorMode : s.clearVblank.mirrorMode = s.mirrorMode := rfl
@[simp] theorem State.clearVblank_chrWritable : s.clearVblank.chrWritable = s.chrWritable := rfl
@[simp] theorem State.clearVblank_faultMark : s.clearVblank.faultMark = s.faultMark := rfl
@[simp] theorem State.clearVblank_refusedMark : s.clearVblank.refusedMark = s.refusedMark := rfl
@[simp] theorem State.clearVblank_pending : s.clearVblank.pending = s.pending := rfl
@[simp] theorem State.clearVblank_supplier : s.clearVblank.supplier = s.supplier := rfl
@[simp] theorem State.clearVblank_result : s.clearVblank.result = s.result := rfl
@[simp] theorem State.clearVblank_draws : s.clearVblank.draws = s.draws := rfl

/-! ### setStatusFlags -/

@[simp] theorem State.setStatusFlags_ctrl (v h o : Bool) : (s.setStatusFlags v h o).ctrl = s.ctrl := rfl
@[simp] theorem State.setStatusFlags_mask (v h o : Bool) : (s.setStatusFlags v h o).mask = s.mask := rfl
@[simp] theorem State.setStatusFlags_status (v h o : Bool) : (s.setStatusFlags v h o).status = flagSet (flagSet (flagSet s.status 7 v) 6 h) 5 o := rfl
@[simp] theorem State.setStatusFlags_oamAddr (v h o : Bool) : (s.setStatusFlags v h o).oamAddr = s.oamAddr := rfl
@[simp] theorem State.setStatusFlags_addr (v h o : Bool) : (s.setStatusFlags v h o).addr = s.addr := rfl
@[simp] theorem State.setStatusFlags_addrW (v h o : Bool) : (s.setStatusFlags v h o).addrW = s.addrW := rfl
@[simp] theorem State.setStatusFlags_scroll0 (v h o : Bool) : (s.setStatusFlags v h o).scroll0 = s.scroll0 := rfl
@[simp] theorem State.setStatusFlags_scroll1 (v h o : Bool) : (s.setStatusFlags v h o).scroll1 = s.scroll1 := rfl
@[simp] theorem State.setStatusFlags_scrollW (v h o : Bool) : (s.setStatusFlags v h o).scrollW = s.scrollW := rfl
@[simp] theorem State.setStatusFlags_rdbuf (v h o : Bool) : (s.setStatusFlags v h o).rdbuf = s.rdbuf := rfl
@[simp] theorem State.setStatusFlags_nt (v h o : Bool) : (s.setStatusFlags v h o).nt = s.nt := rfl
@[simp] theorem State.setStatusFlags_pal (v h o : Bool) : (s.setStatusFlags v h o).pal = s.pal := rfl
@[simp] theorem State.setStatusFlags_oam (v h o : Bool) : (s.setStatusFlags v h o).oam = s.oam := rfl
@[simp] theorem State.setStatusFlags_chr (v h o : Bool) : (s.setStatusFlags v h o).chr = s.chr := rfl
@[simp] theorem State.setStatusFlags_chrSize (v h o : Bool) : (s.setStatusFlags v h o).chrSize = s.chrSize := rfl
@[simp] theorem State.setStatusFlags_mirrorMode (v h o : Bool) : (s.setStatusFlags v h o).mirrorMode = s.mirrorMode := rfl
@[simp] theorem State.setStatusFlags_chrWritable (v h o : Bool) : (s.setStatusFlags v h o).chrWritable = s.chrWritable := rfl
@[simp] theorem State.setStatusFlags_faultMark (v h o : Bool) : (s.setStatusFlags v h o).faultMark = s.faultMark := rfl
@[simp] theorem State.setStatusFlags_refusedMark (v h o : Bool) : (s.setStatusFlags v h o).refusedMark = s.refusedMark := rfl
@[simp] theorem State.setStatusFlags_pending (v h o : Bool) : (s.setStatusFlags v h o).pending = s.pending := rfl
@[simp] theorem State.setStatusFlags_supplier (v h o : Bool) : (s.setStatusFlags v h o).supplier = s.supplier := rfl
@[simp] theorem State.setStatusFlags_result (v h o : Bool) : (s.setStatusFlags v h o).result = s.result := rfl
@[simp] theorem State.setStatusFlags_draws (v h o : Bool) : (s.setStatusFlags v h o).draws = s.draws := rfl

/-! ### resetToggles -/

@[simp] theorem State.resetToggles_ctrl : s.resetToggles.ctrl = s.ctrl := rfl
@[simp] theorem State.resetToggles_mask : s.resetToggles.mask = s.mask := rfl
@[simp] theorem State.resetToggles_status : s.resetToggles.status = s.status := rfl
@[simp] theorem State.resetToggles_oamAddr : s.resetToggles.oamAddr = s.oamAddr := rfl
@[simp] theorem State.resetToggles_addr : s.resetToggles.addr = s.addr := rfl
@[simp] theorem State.resetToggles_addrW : s.resetToggles.addrW = .expectHigh := rfl
@[simp] theorem State.resetToggles_scroll0 : s.resetToggles.scroll0 = s.scroll0 := rfl
@[simp] theorem State.resetToggles_scroll1 : s.resetToggles.scroll1 = s.scroll1 := rfl
@[simp] theorem State.resetToggles_scrollW : s.resetToggles.scrollW = .expectHigh := rfl
@[simp] theorem State.resetToggles_rdbuf : s.resetToggles.rdbuf = s.rdbuf := rfl
@[simp] theorem State.resetToggles_nt : s.resetToggles.nt = s.nt := rfl
@[simp] theorem State.resetToggles_pal : s.resetToggles.pal = s.pal := rfl
@[simp] theorem State.resetToggles_oam : s.resetToggles.oam = s.oam := rfl
@[simp] theorem State.resetToggles_chr : s.resetToggles.chr = s.chr := rfl
@[simp] theorem State.resetToggles_chrSize : s.resetToggles.chrSize = s.chrSize := rfl
@[simp] theorem State.resetToggles_mirrorMode : s.resetToggles.mirrorMode = s.mirrorMode := rfl
@[simp] theorem State.resetToggles_chrWritable : s.resetToggles.chrWritable = s.chrWritable := rfl
@[simp] theorem State.resetToggles_faultMark : s.resetToggles.faultMark = s.faultMark := rfl
@[simp] theorem State.resetToggles_refusedMark : s.resetToggles.refusedMark = s.refusedMark := rfl
@[simp] theorem State.resetToggles_pending : s.resetToggles.pending = s.pending := rfl
@[simp] theorem State.resetToggles_supplier : s.resetToggles.supplier = s.supplier := rfl
@[simp] theorem State.resetToggles_result : s.resetToggles.result = s.result := rfl
@[simp] theorem State.resetToggles_draws : s.resetToggles.draws = s.draws := rfl

/-! ### incrementAddr -/

@[simp] theorem State.incrementAddr_ctrl (k : PpuAddr) : (s.incrementAddr k).ctrl = s.ctrl := rfl
@[simp] theorem State.incrementAddr_mask (k : PpuAddr) : (s.incrementAddr k).mask = s.mask := rfl
@[simp] theorem State.incrementAddr_status (k : PpuAddr) : (s.incrementAddr k).status = s.status := rfl
@[simp] theorem State.incrementAddr_oamAddr (k : PpuAddr) : (s.incrementAddr k).oamAddr = s.oamAddr := rfl
@[simp] theorem State.incrementAddr_addr (k : PpuAddr) : (s.incrementAddr k).addr = s.addr + k := rfl
@[simp] theorem State.incrementAddr_addrW (k : PpuAddr) : (s.incrementAddr k).addrW = s.addrW := rfl
@[simp] theorem State.incrementAddr_scroll0 (k : PpuAddr) : (s.incrementAddr k).scroll0 = s.scroll0 := rfl
@[simp] theorem State.incrementAddr_scroll1 (k : PpuAddr) : (s.incrementAddr k).scroll1 = s.scroll1 := rfl
@[simp] theorem State.incrementAddr_scrollW (k : PpuAddr) : (s.incrementAddr k).scrollW = s.scrollW := rfl
@[simp] theorem State.incrementAddr_rdbuf (k : PpuAddr) : (s.incrementAddr k).rdbuf = s.rdbuf := rfl
@[simp] theorem State.incrementAddr_nt (k : PpuAddr) : (s.incrementAddr k).nt = s.nt := rfl
@[simp] theorem State.incrementAddr_pal (k : PpuAddr) : (s.incrementAddr k).pal = s.pal := rfl
@[simp] theorem State.incrementAddr_oam (k : PpuAddr) : (s.incrementAddr k).oam = s.oam := rfl
@[simp] theorem State.incrementAddr_chr (k : PpuAddr) : (s.incrementAddr k).chr = s.chr := rfl
@[simp] theorem State.incrementAddr_chrSize (k : PpuAddr) : (s.incrementAddr k).chrSize = s.chrSize := rfl
@[simp] theorem State.incrementAddr_mirrorMode (k : PpuAddr) : (s.incrementAddr k).mirrorMode = s.mirrorMode := rfl
@[simp] theorem State.incrementAddr_chrWritable (k : PpuAddr) : (s.incrementAddr k).chrWritable = s.chrWritable := rfl
@[simp] theorem State.incrementAddr_faultMark (k : PpuAddr) : (s.incrementAddr k).faultMark = s.faultMark := rfl
@[simp] theorem State.incrementAddr_refusedMark (k : PpuAddr) : (s.incrementAddr k).refusedMark = s.refusedMark := rfl
@[simp] theorem State.incrementAddr_pending (k : PpuAddr) : (s.incrementAddr k).pending = s.pending := rfl
@[simp] theorem State.incrementAddr_supplier (k : PpuAddr) : (s.incrementAddr k).supplier = s.supplier := rfl
@[simp] theorem State.incrementAddr_result (k : PpuAddr) : (s.incrementAddr k).result = s.result := rfl
@[simp] theorem State.incrementAddr_draws (k : PpuAddr) : (s.incrementAddr k).draws = s.draws := rfl

/-! ### addrSet16 -/

@[simp] theorem State.addrSet16_ctrl (v : BitVec 16) : (s.addrSet16 v).ctrl = s.ctrl := rfl
@[simp] theorem State.addrSet16_mask (v : BitVec 16) : (s.addrSet16 v).mask = s.mask := rfl
@[simp] theorem State.addrSet16_status (v : BitVec 16) : (s.addrSet16 v).status = s.status := rfl
@[simp] theorem State.addrSet16_oamAddr (v : BitVec 16) : (s.addrSet16 v).oamAddr = s.oamAddr := rfl
@[simp] theorem State.addrSet16_addr (v : BitVec 16) : (s.addrSet16 v).addr = maskAddr v := rfl
@[simp] theorem State.addrSet16_addrW (v : BitVec 16) : (s.addrSet16 v).addrW = s.addrW := rfl
@[simp] theorem State.addrSet16_scroll0 (v : BitVec 16) : (s.addrSet16 v).scroll0 = s.scroll0 := rfl
@[simp] theorem State.addrSet16_scroll1 (v : BitVec 16) : (s.addrSet16 v).scroll1 = s.scroll1 := rfl
@[simp] theorem State.addrSet16_scrollW (v : BitVec 16) : (s.addrSet16 v).scrollW = s.scrollW := rfl
@[simp] theorem State.addrSet16_rdbuf (v : BitVec 16) : (s.addrSet16 v).rdbuf = s.rdbuf := rfl
@[simp] theorem State.addrSet16_nt (v : BitVec 16) : (s.addrSet16 v).nt = s.nt := rfl
@[simp] theorem State.addrSet16_pal (v : BitVec 16) : (s.addrSet16 v).pal = s.pal := rfl
@[simp] theorem State.addrSet16_oam (v : BitVec 16) : (s.addrSet16 v).oam = s.oam := rfl
@[simp] theorem State.addrSet16_chr (v : BitVec 16) : (s.addrSet16 v).chr = s.chr := rfl
@[simp] theorem State.addrSet16_chrSize (v : BitVec 16) : (s.addrSet16 v).chrSize = s.chrSize := rfl
@[simp] theorem State.addrSet16_mirrorMode (v : BitVec 16) : (s.addrSet16 v).mirrorMode = s.mirrorMode := rfl
@[simp] theorem State.addrSet16_chrWritable (v : BitVec 16) : (s.addrSet16 v).chrWritable = s.chrWritable := rfl
@[simp] theorem State.addrSet16_faultMark (v : BitVec 16) : (s.addrSet16 v).faultMark = s.faultMark := rfl
@[simp] theorem State.addrSet16_refusedMark (v : BitVec 16) : (s.addrSet16 v).refusedMark = s.refusedMark := rfl
@[simp] theorem State.addrSet16_pending (v : BitVec 16) : (s.addrSet16 v).pending = s.pending := rfl
@[simp] theorem State.addrSet16_supplier (v : BitVec 16) : (s.addrSet16 v).supplier = s.supplier := rfl
@[simp] theorem State.addrSet16_result (v : BitVec 16) : (s.addrSet16 v).result = s.result := rfl
@[simp] theorem State.addrSet16_draws (v : BitVec 16) : (s.addrSet16 v).draws = s.draws := rfl

/-! ### returns -/

@[simp] theorem State.returns_ctrl (v : Byte) : (s.returns v).ctrl = s.ctrl := rfl
@[simp] theorem State.returns_mask (v : Byte) : (s.returns v).mask = s.mask := rfl
@[simp] theorem State.returns_status (v : Byte) : (s.returns v).status = s.status := rfl
@[simp] theorem State.returns_oamAddr (v : Byte) : (s.returns v).oamAddr = s.oamAddr := rfl
@[simp] theorem State.returns_addr (v : Byte) : (s.returns v).addr = s.addr := rfl
@[simp] theorem State.returns_addrW (v : Byte) : (s.returns v).addrW = s.addrW := rfl
@[simp] theorem State.returns_scroll0 (v : Byte) : (s.returns v).scroll0 = s.scroll0 := rfl
@[simp] theorem State.returns_scroll1 (v : Byte) : (s.returns v).scroll1 = s.scroll1 := rfl
@[simp] theorem State.returns_scrollW (v : Byte) : (s.returns v).scrollW = s.scrollW := rfl
@[simp] theorem State.returns_rdbuf (v : Byte) : (s.returns v).rdbuf = s.rdbuf := rfl
@[simp] theorem State.returns_nt (v : Byte) : (s.returns v).nt = s.nt := rfl
@[simp] theorem State.returns_pal (v : Byte) : (s.returns v).pal = s.pal := rfl
@[simp] theorem State.returns_oam (v : Byte) : (s.returns v).oam = s.oam := rfl
@[simp] theorem State.returns_chr (v : Byte) : (s.returns v).chr = s.chr := rfl
@[simp] theorem State.returns_chrSize (v : Byte) : (s.returns v).chrSize = s.chrSize := rfl
@[simp] theorem State.returns_mirrorMode (v : Byte) : (s.returns v).mirrorMode = s.mirrorMode := rfl
@[simp] theorem State.returns_chrWritable (v : Byte) : (s.returns v).chrWritable = s.chrWritable := rfl
@[simp] theorem State.returns_faultMark (v : Byte) : (s.returns v).faultMark = s.faultMark := rfl
@[simp] theorem State.returns_refusedMark (v : Byte) : (s.returns v).refusedMark = s.refusedMark := rfl
@[simp] theorem State.returns_pending (v : Byte) : (s.returns v).pending = s.pending := rfl
@[simp] theorem State.returns_supplier (v : Byte) : (s.returns v).supplier = s.supplier := rfl
@[simp] theorem State.returns_result (v : Byte) : (s.returns v).result = some v := rfl
@[simp] theorem State.returns_draws (v : Byte) : (s.returns v).draws = s.draws := rfl

/-! ### copyPage -/

@[simp] theorem State.copyPage_ctrl (p : Byte) : (s.copyPage p).ctrl = s.ctrl := by simp only [State.copyPage]
@[simp] theorem State.copyPage_mask (p : Byte) : (s.copyPage p).mask = s.mask := by simp only [State.copyPage]
@[simp] theorem State.copyPage_status (p : Byte) : (s.copyPage p).status = s.status := by simp only [State.copyPage]
@[simp] theorem State.copyPage_oamAddr (p : Byte) : (s.copyPage p).oamAddr = s.oamAddr := by simp only [State.copyPage]
@[simp] theorem State.copyPage_addr (p : Byte) : (s.copyPage p).addr = s.addr := by simp only [State.copyPage]
@[simp] theorem State.copyPage_addrW (p : Byte) : (s.copyPage p).addrW = s.addrW := by simp only [State.copyPage]
@[simp] theorem State.copyPage_scroll0 (p : Byte) : (s.copyPage p).scroll0 = s.scroll0 := by simp only [State.copyPage]
@[simp] theorem State.copyPage_scroll1 (p : Byte) : (s.copyPage p).scroll1 = s.scroll1 := by simp only [State.copyPage]
@[simp] theorem State.copyPage_scrollW (p : Byte) : (s.copyPage p).scrollW = s.scrollW := by simp only [State.copyPage]
@[simp] theorem State.copyPage_rdbuf (p : Byte) : (s.copyPage p).rdbuf = s.rdbuf := by simp only [State.copyPage]
@[simp] theorem State.copyPage_nt (p : Byte) : (s.copyPage p).nt = s.nt := by simp only [State.copyPage]
@[simp] theorem State.copyPage_pal (p : Byte) : (s.copyPage p).pal = s.pal := by simp only [State.copyPage]
@[simp] theorem State.copyPage_oam (p : Byte) : (s.copyPage p).oam = s.oam.fill 256 (s.pageByte p) := by simp only [State.copyPage]
@[simp] theorem State.copyPage_chr (p : Byte) : (s.copyPage p).chr = s.chr := by simp only [State.copyPage]
@[simp] theorem State.copyPage_chrSize (p : Byte) : (s.copyPage p).chrSize = s.chrSize := by simp only [State.copyPage]
@[simp] theorem State.copyPage_mirrorMode (p : Byte) : (s.copyPage p).mirrorMode = s.mirrorMode := by simp only [State.copyPage]
@[simp] theorem State.copyPage_chrWritable (p : Byte) : (s.copyPage p).chrWritable = s.chrWritable := by simp only [State.copyPage]
@[simp] theorem State.copyPage_faultMark (p : Byte) : (s.copyPage p).faultMark = s.faultMark := by simp only [State.copyPage]
@[simp] theorem State.copyPage_refusedMark (p : Byte) : (s.copyPage p).refusedMark = s.refusedMark := by simp only [State.copyPage]
@[simp] theorem State.copyPage_pending (p : Byte) : (s.copyPage p).pending = s.pending := by simp only [State.copyPage]
@[simp] theorem State.copyPage_supplier (p : Byte) : (s.copyPage p).supplier = s.supplier := by simp only [State.copyPage]
@[simp] theorem State.copyPage_result (p : Byte) : (s.copyPage p).result = s.result := by simp only [State.copyPage]
@[simp] theorem State.copyPage_draws (p : Byte) : (s.copyPage p).draws = s.draws + 1 := by simp only [State.copyPage]

/-! ### accept -/

@[simp] theorem State.accept_ctrl (q : Issue) (r : List Issue) : (s.accept q r).ctrl = s.ctrl := rfl
@[simp] theorem State.accept_mask (q : Issue) (r : List Issue) : (s.accept q r).mask = s.mask := rfl
@[simp] theorem State.accept_status (q : Issue) (r : List Issue) : (s.accept q r).status = s.status := rfl
@[simp] theorem State.accept_oamAddr (q : Issue) (r : List Issue) : (s.accept q r).oamAddr = s.oamAddr := rfl
@[simp] theorem State.accept_addr (q : Issue) (r : List Issue) : (s.accept q r).addr = s.addr := rfl
@[simp] theorem State.accept_addrW (q : Issue) (r : List Issue) : (s.accept q r).addrW = s.addrW := rfl
@[simp] theorem State.accept_scroll0 (q : Issue) (r : List Issue) : (s.accept q r).scroll0 = s.scroll0 := rfl
@[simp] theorem State.accept_scroll1 (q : Issue) (r : List Issue) : (s.accept q r).scroll1 = s.scroll1 := rfl
@[simp] theorem State.accept_scrollW (q : Issue) (r : List Issue) : (s.accept q r).scrollW = s.scrollW := rfl
@[simp] theorem State.accept_rdbuf (q : Issue) (r : List Issue) : (s.accept q r).rdbuf = s.rdbuf := rfl
@[simp] theorem State.accept_nt (q : Issue) (r : List Issue) : (s.accept q r).nt = s.nt := rfl
@[simp] theorem State.accept_pal (q : Issue) (r : List Issue) : (s.accept q r).pal = s.pal := rfl
@[simp] theorem State.accept_oam (q : Issue) (r : List Issue) : (s.accept q r).oam = s.oam := rfl
@[simp] theorem State.accept_chr (q : Issue) (r : List Issue) : (s.accept q r).chr = s.chr := rfl
@[simp] theorem State.accept_chrSize (q : Issue) (r : List Issue) : (s.accept q r).chrSize = s.chrSize := rfl
@[simp] theorem State.accept_mirrorMode (q : Issue) (r : List Issue) : (s.accept q r).mirrorMode = s.mirrorMode := rfl
@[simp] theorem State.accept_chrWritable (q : Issue) (r : List Issue) : (s.accept q r).chrWritable = s.chrWritable := rfl
@[simp] theorem State.accept_faultMark (q : Issue) (r : List Issue) : (s.accept q r).faultMark = s.faultMark := rfl
@[simp] theorem State.accept_refusedMark (q : Issue) (r : List Issue) : (s.accept q r).refusedMark = s.refusedMark := rfl
@[simp] theorem State.accept_pending (q : Issue) (r : List Issue) : (s.accept q r).pending = r := rfl
@[simp] theorem State.accept_supplier (q : Issue) (r : List Issue) : (s.accept q r).supplier = q.supplier := rfl
@[simp] theorem State.accept_result (q : Issue) (r : List Issue) : (s.accept q r).result = none := rfl
@[simp] theorem State.accept_draws (q : Issue) (r : List Issue) : (s.accept q r).draws = s.draws := rfl

/-! ### placeNext -/

@[simp] theorem State.placeNext_ctrl (w : OpWord) : (s.placeNext w).ctrl = s.ctrl := rfl
@[simp] theorem State.placeNext_mask (w : OpWord) : (s.placeNext w).mask = s.mask := rfl
@[simp] theorem State.placeNext_status (w : OpWord) : (s.placeNext w).status = s.status := rfl
@[simp] theorem State.placeNext_oamAddr (w : OpWord) : (s.placeNext w).oamAddr = s.oamAddr := rfl
@[simp] theorem State.placeNext_addr (w : OpWord) : (s.placeNext w).addr = s.addr := rfl
@[simp] theorem State.placeNext_addrW (w : OpWord) : (s.placeNext w).addrW = s.addrW := rfl
@[simp] theorem State.placeNext_scroll0 (w : OpWord) : (s.placeNext w).scroll0 = s.scroll0 := rfl
@[simp] theorem State.placeNext_scroll1 (w : OpWord) : (s.placeNext w).scroll1 = s.scroll1 := rfl
@[simp] theorem State.placeNext_scrollW (w : OpWord) : (s.placeNext w).scrollW = s.scrollW := rfl
@[simp] theorem State.placeNext_rdbuf (w : OpWord) : (s.placeNext w).rdbuf = s.rdbuf := rfl
@[simp] theorem State.placeNext_nt (w : OpWord) : (s.placeNext w).nt = s.nt := rfl
@[simp] theorem State.placeNext_pal (w : OpWord) : (s.placeNext w).pal = s.pal := rfl
@[simp] theorem State.placeNext_oam (w : OpWord) : (s.placeNext w).oam = s.oam := rfl
@[simp] theorem State.placeNext_chr (w : OpWord) : (s.placeNext w).chr = s.chr := rfl
@[simp] theorem State.placeNext_chrSize (w : OpWord) : (s.placeNext w).chrSize = s.chrSize := rfl
@[simp] theorem State.placeNext_mirrorMode (w : OpWord) : (s.placeNext w).mirrorMode = s.mirrorMode := rfl
@[simp] theorem State.placeNext_chrWritable (w : OpWord) : (s.placeNext w).chrWritable = s.chrWritable := rfl
@[simp] theorem State.placeNext_faultMark (w : OpWord) : (s.placeNext w).faultMark = none := rfl
@[simp] theorem State.placeNext_refusedMark (w : OpWord) : (s.placeNext w).refusedMark = none := rfl
@[simp] theorem State.placeNext_pending (w : OpWord) : (s.placeNext w).pending = issueOf w :: s.pending := rfl
@[simp] theorem State.placeNext_supplier (w : OpWord) : (s.placeNext w).supplier = s.supplier := rfl
@[simp] theorem State.placeNext_result (w : OpWord) : (s.placeNext w).result = s.result := rfl
@[simp] theorem State.placeNext_draws (w : OpWord) : (s.placeNext w).draws = s.draws := rfl

/-! ### setCtrl -/

@[simp] theorem State.setCtrl_ctrl (v : Byte) : (s.setCtrl v).ctrl = v := rfl
@[simp] theorem State.setCtrl_mask (v : Byte) : (s.setCtrl v).mask = s.mask := rfl
@[simp] theorem State.setCtrl_status (v : Byte) : (s.setCtrl v).status = s.status := rfl
@[simp] theorem State.setCtrl_oamAddr (v : Byte) : (s.setCtrl v).oamAddr = s.oamAddr := rfl
@[simp] theorem State.setCtrl_addr (v : Byte) : (s.setCtrl v).addr = s.addr := rfl
@[simp] theorem State.setCtrl_addrW (v : Byte) : (s.setCtrl v).addrW = s.addrW := rfl
@[simp] theorem State.setCtrl_scroll0 (v : Byte) : (s.setCtrl v).scroll0 = s.scroll0 := rfl
@[simp] theorem State.setCtrl_scroll1 (v : Byte) : (s.setCtrl v).scroll1 = s.scroll1 := rfl
@[simp] theorem State.setCtrl_scrollW (v : Byte) : (s.setCtrl v).scrollW = s.scrollW := rfl
@[simp] theorem State.setCtrl_rdbuf (v : Byte) : (s.setCtrl v).rdbuf = s.rdbuf := rfl
@[simp] theorem State.setCtrl_nt (v : Byte) : (s.setCtrl v).nt = s.nt := rfl
@[simp] theorem State.setCtrl_pal (v : Byte) : (s.setCtrl v).pal = s.pal := rfl
@[simp] theorem State.setCtrl_oam (v : Byte) : (s.setCtrl v).oam = s.oam := rfl
@[simp] theorem State.setCtrl_chr (v : Byte) : (s.setCtrl v).chr = s.chr := rfl
@[simp] theorem State.setCtrl_chrSize (v : Byte) : (s.setCtrl v).chrSize = s.chrSize := rfl
@[simp] theorem State.setCtrl_mirrorMode (v : Byte) : (s.setCtrl v).mirrorMode = s.mirrorMode := rfl
@[simp] theorem State.setCtrl_chrWritable (v : Byte) : (s.setCtrl v).chrWritable = s.chrWritable := rfl
@[simp] theorem State.setCtrl_faultMark (v : Byte) : (s.setCtrl v).faultMark = s.faultMark := rfl
@[simp] theorem State.setCtrl_refusedMark (v : Byte) : (s.setCtrl v).refusedMark = s.refusedMark := rfl
@[simp] theorem State.setCtrl_pending (v : Byte) : (s.setCtrl v).pending = s.pending := rfl
@[simp] theorem State.setCtrl_supplier (v : Byte) : (s.setCtrl v).supplier = s.supplier := rfl
@[simp] theorem State.setCtrl_result (v : Byte) : (s.setCtrl v).result = s.result := rfl
@[simp] theorem State.setCtrl_draws (v : Byte) : (s.setCtrl v).draws = s.draws := rfl

/-! ### setMask -/

@[simp] theorem State.setMask_ctrl (v : Byte) : (s.setMask v).ctrl = s.ctrl := rfl
@[simp] theorem State.setMask_mask (v : Byte) : (s.setMask v).mask = v := rfl
@[simp] theorem State.setMask_status (v : Byte) : (s.setMask v).status = s.status := rfl
@[simp] theorem State.setMask_oamAddr (v : Byte) : (s.setMask v).oamAddr = s.oamAddr := rfl
@[simp] theorem State.setMask_addr (v : Byte) : (s.setMask v).addr = s.addr := rfl
@[simp] theorem State.setMask_addrW (v : Byte) : (s.setMask v).addrW = s.addrW := rfl
@[simp] theorem State.setMask_scroll0 (v : Byte) : (s.setMask v).scroll0 = s.scroll0 := rfl
@[simp] theorem State.setMask_scroll1 (v : Byte) : (s.setMask v).scroll1 = s.scroll1 := rfl
@[simp] theorem State.setMask_scrollW (v : Byte) : (s.setMask v).scrollW = s.scrollW := rfl
@[simp] theorem State.setMask_rdbuf (v : Byte) : (s.setMask v).rdbuf = s.rdbuf := rfl
@[simp] theorem State.setMask_nt (v : Byte) : (s.setMask v).nt = s.nt := rfl
@[simp] theorem State.setMask_pal (v : Byte) : (s.setMask v).pal = s.pal := rfl
@[simp] theorem State.setMask_oam (v : Byte) : (s.setMask v).oam = s.oam := rfl
@[simp] theorem State.setMask_chr (v : Byte) : (s.setMask v).chr = s.chr := rfl
@[simp] theorem State.setMask_chrSize (v : Byte) : (s.setMask v).chrSize = s.chrSize := rfl
@[simp] theorem State.setMask_mirrorMode (v : Byte) : (s.setMask v).mirrorMode = s.mirrorMode := rfl
@[simp] theorem State.setMask_chrWritable (v : Byte) : (s.setMask v).chrWritable = s.chrWritable := rfl
@[simp] theorem State.setMask_faultMark (v : Byte) : (s.setMask v).faultMark = s.faultMark := rfl
@[simp] theorem State.setMask_refusedMark (v : Byte) : (s.setMask v).refusedMark = s.refusedMark := rfl
@[simp] theorem State.setMask_pending (v : Byte) : (s.setMask v).pending = s.pending := rfl
@[simp] theorem State.setMask_supplier (v : Byte) : (s.setMask v).supplier = s.supplier := rfl
@[simp] theorem State.setMask_result (v : Byte) : (s.setMask v).result = s.result := rfl
@[simp] theorem State.setMask_draws (v : Byte) : (s.setMask v).draws = s.draws := rfl

/-! ### setOamAddr -/

@[simp] theorem State.setOamAddr_ctrl (v : Byte) : (s.setOamAddr v).ctrl = s.ctrl := rfl
@[simp] theorem State.setOamAddr_mask (v : Byte) : (s.setOamAddr v).mask = s.mask := rfl
@[simp] theorem State.setOamAddr_status (v : Byte) : (s.setOamAddr v).status = s.status := rfl
@[simp] theorem State.setOamAddr_oamAddr (v : Byte) : (s.setOamAddr v).oamAddr = v := rfl
@[simp] theorem State.setOamAddr_addr (v : Byte) : (s.setOamAddr v).addr = s.addr := rfl
@[simp] theorem State.setOamAddr_addrW (v : Byte) : (s.setOamAddr v).addrW = s.addrW := rfl
@[simp] theorem State.setOamAddr_scroll0 (v : Byte) : (s.setOamAddr v).scroll0 = s.scroll0 := rfl
@[simp] theorem State.setOamAddr_scroll1 (v : Byte) : (s.setOamAddr v).scroll1 = s.scroll1 := rfl
@[simp] theorem State.setOamAddr_scrollW (v : Byte) : (s.setOamAddr v).scrollW = s.scrollW := rfl
@[simp] theorem State.setOamAddr_rdbuf (v : Byte) : (s.setOamAddr v).rdbuf = s.rdbuf := rfl
@[simp] theorem State.setOamAddr_nt (v : Byte) : (s.setOamAddr v).nt = s.nt := rfl
@[simp] theorem State.setOamAddr_pal (v : Byte) : (s.setOamAddr v).pal = s.pal := rfl
@[simp] theorem State.setOamAddr_oam (v : Byte) : (s.setOamAddr v).oam = s.oam := rfl
@[simp] theorem State.setOamAddr_chr (v : Byte) : (s.setOamAddr v).chr = s.chr := rfl
@[simp] theorem State.setOamAddr_chrSize (v : Byte) : (s.setOamAddr v).chrSize = s.chrSize := rfl
@[simp] theorem State.setOamAddr_mirrorMode (v : Byte) : (s.setOamAddr v).mirrorMode = s.mirrorMode := rfl
@[simp] theorem State.setOamAddr_chrWritable (v : Byte) : (s.setOamAddr v).chrWritable = s.chrWritable := rfl
@[simp] theorem State.setOamAddr_faultMark (v : Byte) : (s.setOamAddr v).faultMark = s.faultMark := rfl
@[simp] theorem State.setOamAddr_refusedMark (v : Byte) : (s.setOamAddr v).refusedMark = s.refusedMark := rfl
@[simp] theorem State.setOamAddr_pending (v : Byte) : (s.setOamAddr v).pending = s.pending := rfl
@[simp] theorem State.setOamAddr_supplier (v : Byte) : (s.setOamAddr v).supplier = s.supplier := rfl
@[simp] theorem State.setOamAddr_result (v : Byte) : (s.setOamAddr v).result = s.result := rfl
@[simp] theorem State.setOamAddr_draws (v : Byte) : (s.setOamAddr v).draws = s.draws := rfl

/-! ### setRdbuf -/

@[simp] theorem State.setRdbuf_ctrl (v : Byte) : (s.setRdbuf v).ctrl = s.ctrl := rfl
@[simp] theorem State.setRdbuf_mask (v : Byte) : (s.setRdbuf v).mask = s.mask := rfl
@[simp] theorem State.setRdbuf_status (v : Byte) : (s.setRdbuf v).status = s.status := rfl
@[simp] theorem State.setRdbuf_oamAddr (v : Byte) : (s.setRdbuf v).oamAddr = s.oamAddr := rfl
@[simp] theorem State.setRdbuf_addr (v : Byte) : (s.setRdbuf v).addr = s.addr := rfl
@[simp] theorem State.setRdbuf_addrW (v : Byte) : (s.setRdbuf v).addrW = s.addrW := rfl
@[simp] theorem State.setRdbuf_scroll0 (v : Byte) : (s.setRdbuf v).scroll0 = s.scroll0 := rfl
@[simp] theorem State.setRdbuf_scroll1 (v : Byte) : (s.setRdbuf v).scroll1 = s.scroll1 := rfl
@[simp] theorem State.setRdbuf_scrollW (v : Byte) : (s.setRdbuf v).scrollW = s.scrollW := rfl
@[simp] theorem State.setRdbuf_rdbuf (v : Byte) : (s.setRdbuf v).rdbuf = v := rfl
@[simp] theorem State.setRdbuf_nt (v : Byte) : (s.setRdbuf v).nt = s.nt := rfl
@[simp] theorem State.setRdbuf_pal (v : Byte) : (s.setRdbuf v).pal = s.pal := rfl
@[simp] theorem State.setRdbuf_oam (v : Byte) : (s.setRdbuf v).oam = s.oam := rfl
@[simp] theorem State.setRdbuf_chr (v : Byte) : (s.setRdbuf v).chr = s.chr := rfl
@[simp] theorem State.setRdbuf_chrSize (v : Byte) : (s.setRdbuf v).chrSize = s.chrSize := rfl
@[simp] theorem State.setRdbuf_mirrorMode (v : Byte) : (s.setRdbuf v).mirrorMode = s.mirrorMode := rfl
@[simp] theorem State.setRdbuf_chrWritable (v : Byte) : (s.setRdbuf v).chrWritable = s.chrWritable := rfl
@[simp] theorem State.setRdbuf_faultMark (v : Byte) : (s.setRdbuf v).faultMark = s.faultMark := rfl
@[simp] theorem State.setRdbuf_refusedMark (v : Byte) : (s.setRdbuf v).refusedMark = s.refusedMark := rfl
@[simp] theorem State.setRdbuf_pending (v : Byte) : (s.setRdbuf v).pending = s.pending := rfl
@[simp] theorem State.setRdbuf_supplier (v : Byte) : (s.setRdbuf v).supplier = s.supplier := rfl
@[simp] theorem State.setRdbuf_result (v : Byte) : (s.setRdbuf v).result = s.result := rfl
@[simp] theorem State.setRdbuf_draws (v : Byte) : (s.setRdbuf v).draws = s.draws := rfl

/-! ### writePlace -/

@[simp] theorem State.writePlace_ctrl (pl : Place) (v : Byte) : (s.writePlace pl v).ctrl = s.ctrl := by cases pl <;> rfl
@[simp] theorem State.writePlace_mask (pl : Place) (v : Byte) : (s.writePlace pl v).mask = s.mask := by cases pl <;> rfl
@[simp] theorem State.writePlace_status (pl : Place) (v : Byte) : (s.writePlace pl v).status = s.status := by cases pl <;> rfl
@[simp] theorem State.writePlace_oamAddr (pl : Place) (v : Byte) : (s.writePlace pl v).oamAddr = s.oamAddr := by cases pl <;> rfl
@[simp] theorem State.writePlace_addr (pl : Place) (v : Byte) : (s.writePlace pl v).addr = s.addr := by cases pl <;> rfl
@[simp] theorem State.writePlace_addrW (pl : Place) (v : Byte) : (s.writePlace pl v).addrW = s.addrW := by cases pl <;> rfl
@[simp] theorem State.writePlace_scroll0 (pl : Place) (v : Byte) : (s.writePlace pl v).scroll0 = s.scroll0 := by cases pl <;> rfl
@[simp] theorem State.writePlace_scroll1 (pl : Place) (v : Byte) : (s.writePlace pl v).scroll1 = s.scroll1 := by cases pl <;> rfl
@[simp] theorem State.writePlace_scrollW (pl : Place) (v : Byte) : (s.writePlace pl v).scrollW = s.scrollW := by cases pl <;> rfl
@[simp] theorem State.writePlace_rdbuf (pl : Place) (v : Byte) : (s.writePlace pl v).rdbuf = s.rdbuf := by cases pl <;> rfl
@[simp] theorem State.writePlace_chr_nt (i : Nat) (v : Byte) : (s.writePlace (.chr i) v).nt = s.nt := rfl
@[simp] theorem State.writePlace_nt_nt (i : Nat) (v : Byte) : (s.writePlace (.nt i) v).nt = s.nt.write i v := rfl
@[simp] theorem State.writePlace_pal_nt (i : Nat) (v : Byte) : (s.writePlace (.pal i) v).nt = s.nt := rfl
@[simp] theorem State.writePlace_oam_nt (i : Nat) (v : Byte) : (s.writePlace (.oam i) v).nt = s.nt := rfl
@[simp] theorem State.writePlace_chr_pal (i : Nat) (v : Byte) : (s.writePlace (.chr i) v).pal = s.pal := rfl
@[simp] theorem State.writePlace_nt_pal (i : Nat) (v : Byte) : (s.writePlace (.nt i) v).pal = s.pal := rfl
@[simp] theorem State.writePlace_pal_pal (i : Nat) (v : Byte) : (s.writePlace (.pal i) v).pal = s.pal.write i v := rfl
@[simp] theorem State.writePlace_oam_pal (i : Nat) (v : Byte) : (s.writePlace (.oam i) v).pal = s.pal := rfl
@[simp] theorem State.writePlace_chr_oam (i : Nat) (v : Byte) : (s.writePlace (.chr i) v).oam = s.oam := rfl
@[simp] theorem State.writePlace_nt_oam (i : Nat) (v : Byte) : (s.writePlace (.nt i) v).oam = s.oam := rfl
@[simp] theorem State.writePlace_pal_oam (i : Nat) (v : Byte) : (s.writePlace (.pal i) v).oam = s.oam := rfl
@[simp] theorem State.writePlace_oam_oam (i : Nat) (v : Byte) : (s.writePlace (.oam i) v).oam = s.oam.write i v := rfl
@[simp] theorem State.writePlace_chr_chr (i : Nat) (v : Byte) : (s.writePlace (.chr i) v).chr = s.chr.write i v := rfl
@[simp] theorem State.writePlace_nt_chr (i : Nat) (v : Byte) : (s.writePlace (.nt i) v).chr = s.chr := rfl
@[simp] theorem State.writePlace_pal_chr (i : Nat) (v : Byte) : (s.writePlace (.pal i) v).chr = s.chr := rfl
@[simp] theorem State.writePlace_oam_chr (i : Nat) (v : Byte) : (s.writePlace (.oam i) v).chr = s.chr := rfl
@[simp] theorem State.writePlace_chrSize (pl : Place) (v : Byte) : (s.writePlace pl v).chrSize = s.chrSize := by cases pl <;> rfl
@[simp] theorem State.writePlace_mirrorMode (pl : Place) (v : Byte) : (s.writePlace pl v).mirrorMode = s.mirrorMode := by cases pl <;> rfl
@[simp] theorem State.writePlace_chrWritable (pl : Place) (v : Byte) : (s.writePlace pl v).chrWritable = s.chrWritable := by cases pl <;> rfl
@[simp] theorem State.writePlace_faultMark (pl : Place) (v : Byte) : (s.writePlace pl v).faultMark = s.faultMark := by cases pl <;> rfl
@[simp] theorem State.writePlace_refusedMark (pl : Place) (v : Byte) : (s.writePlace pl v).refusedMark = s.refusedMark := by cases pl <;> rfl
@[simp] theorem State.writePlace_pending (pl : Place) (v : Byte) : (s.writePlace pl v).pending = s.pending := by cases pl <;> rfl
@[simp] theorem State.writePlace_supplier (pl : Place) (v : Byte) : (s.writePlace pl v).supplier = s.supplier := by cases pl <;> rfl
@[simp] theorem State.writePlace_result (pl : Place) (v : Byte) : (s.writePlace pl v).result = s.result := by cases pl <;> rfl
@[simp] theorem State.writePlace_draws (pl : Place) (v : Byte) : (s.writePlace pl v).draws = s.draws := by cases pl <;> rfl

/-! ### The latch writes -/

@[simp] theorem State.writeAddrLatch_ctrl (b : Byte) : (s.writeAddrLatch b).ctrl = s.ctrl := by unfold State.writeAddrLatch; split <;> rfl
@[simp] theorem State.writeAddrLatch_mask (b : Byte) : (s.writeAddrLatch b).mask = s.mask := by unfold State.writeAddrLatch; split <;> rfl
@[simp] theorem State.writeAddrLatch_status (b : Byte) : (s.writeAddrLatch b).status = s.status := by unfold State.writeAddrLatch; split <;> rfl
@[simp] theorem State.writeAddrLatch_oamAddr (b : Byte) : (s.writeAddrLatch b).oamAddr = s.oamAddr := by unfold State.writeAddrLatch; split <;> rfl
@[simp] theorem State.writeAddrLatch_scroll0 (b : Byte) : (s.writeAddrLatch b).scroll0 = s.scroll0 := by unfold State.writeAddrLatch; split <;> rfl
@[simp] theorem State.writeAddrLatch_scroll1 (b : Byte) : (s.writeAddrLatch b).scroll1 = s.scroll1 := by unfold State.writeAddrLatch; split <;> rfl
@[simp] theorem State.writeAddrLatch_scrollW (b : Byte) : (s.writeAddrLatch b).scrollW = s.scrollW := by unfold State.writeAddrLatch; split <;> rfl
@[simp] theorem State.writeAddrLatch_rdbuf (b : Byte) : (s.writeAddrLatch b).rdbuf = s.rdbuf := by unfold State.writeAddrLatch; split <;> rfl
@[simp] theorem State.writeAddrLatch_nt (b : Byte) : (s.writeAddrLatch b).nt = s.nt := by unfold State.writeAddrLatch; split <;> rfl
@[simp] theorem State.writeAddrLatch_pal (b : Byte) : (s.writeAddrLatch b).pal = s.pal := by unfold State.writeAddrLatch; split <;> rfl
@[simp] theorem State.writeAddrLatch_oam (b : Byte) : (s.writeAddrLatch b).oam = s.oam := by unfold State.writeAddrLatch; split <;> rfl
@[simp] theorem State.writeAddrLatch_chr (b : Byte) : (s.writeAddrLatch b).chr = s.chr := by unfold State.writeAddrLatch; split <;> rfl
@[simp] theorem State.writeAddrLatch_chrSize (b : Byte) : (s.writeAddrLatch b).chrSize = s.chrSize := by unfold State.writeAddrLatch; split <;> rfl
@[simp] theorem State.writeAddrLatch_mirrorMode (b : Byte) : (s.writeAddrLatch b).mirrorMode = s.mirrorMode := by unfold State.writeAddrLatch; split <;> rfl
@[simp] theorem State.writeAddrLatch_chrWritable (b : Byte) : (s.writeAddrLatch b).chrWritable = s.chrWritable := by unfold State.writeAddrLatch; split <;> rfl
@[simp] theorem State.writeAddrLatch_faultMark (b : Byte) : (s.writeAddrLatch b).faultMark = s.faultMark := by unfold State.writeAddrLatch; split <;> rfl
@[simp] theorem State.writeAddrLatch_refusedMark (b : Byte) : (s.writeAddrLatch b).refusedMark = s.refusedMark := by unfold State.writeAddrLatch; split <;> rfl
@[simp] theorem State.writeAddrLatch_pending (b : Byte) : (s.writeAddrLatch b).pending = s.pending := by unfold State.writeAddrLatch; split <;> rfl
@[simp] theorem State.writeAddrLatch_supplier (b : Byte) : (s.writeAddrLatch b).supplier = s.supplier := by unfold State.writeAddrLatch; split <;> rfl
@[simp] theorem State.writeAddrLatch_result (b : Byte) : (s.writeAddrLatch b).result = s.result := by unfold State.writeAddrLatch; split <;> rfl
@[simp] theorem State.writeAddrLatch_draws (b : Byte) : (s.writeAddrLatch b).draws = s.draws := by unfold State.writeAddrLatch; split <;> rfl
@[simp] theorem State.writeAddrLatch_addrW (b : Byte) : (s.writeAddrLatch b).addrW = s.addrW.flip := by unfold State.writeAddrLatch; split <;> rfl

@[simp] theorem State.writeScrollLatch_ctrl (b : Byte) : (s.writeScrollLatch b).ctrl = s.ctrl := by unfold State.writeScrollLatch; split <;> rfl
@[simp] theorem State.writeScrollLatch_mask (b : Byte) : (s.writeScrollLatch b).mask = s.mask := by unfold State.writeScrollLatch; split <;> rfl
@[simp] theorem State.writeScrollLatch_status (b : Byte) : (s.writeScrollLatch b).status = s.status := by unfold State.writeScrollLatch; split <;> rfl
@[simp] theorem State.writeScrollLatch_oamAddr (b : Byte) : (s.writeScrollLatch b).oamAddr = s.oamAddr := by unfold State.writeScrollLatch; split <;> rfl
@[simp] theorem State.writeScrollLatch_addr (b : Byte) : (s.writeScrollLatch b).addr = s.addr := by unfold State.writeScrollLatch; split <;> rfl
@[simp] theorem State.writeScrollLatch_addrW (b : Byte) : (s.writeScrollLatch b).addrW = s.addrW := by unfold State.writeScrollLatch; split <;> rfl
@[simp] theorem State.writeScrollLatch_rdbuf (b : Byte) : (s.writeScrollLatch b).rdbuf = s.rdbuf := by unfold State.writeScrollLatch; split <;> rfl
@[simp] theorem State.writeScrollLatch_nt (b : Byte) : (s.writeScrollLatch b).nt = s.nt := by unfold State.writeScrollLatch; split <;> rfl
@[simp] theorem State.writeScrollLatch_pal (b : Byte) : (s.writeScrollLatch b).pal = s.pal := by unfold State.writeScrollLatch; split <;> rfl
@[simp] theorem State.writeScrollLatch_oam (b : Byte) : (s.writeScrollLatch b).oam = s.oam := by unfold State.writeScrollLatch; split <;> rfl
@[simp] theorem State.writeScrollLatch_chr (b : Byte) : (s.writeScrollLatch b).chr = s.chr := by unfold State.writeScrollLatch; split <;> rfl
@[simp] theorem State.writeScrollLatch_chrSize (b : Byte) : (s.writeScrollLatch b).chrSize = s.chrSize := by unfold State.writeScrollLatch; split <;> rfl
@[simp] theorem State.writeScrollLatch_mirrorMode (b : Byte) : (s.writeScrollLatch b).mirrorMode = s.mirrorMode := by unfold State.writeScrollLatch; split <;> rfl
@[simp] theorem State.writeScrollLatch_chrWritable (b : Byte) : (s.writeScrollLatch b).chrWritable = s.chrWritable := by unfold State.writeScrollLatch; split <;> rfl
@[simp] theorem State.writeScrollLatch_faultMark (b : Byte) : (s.writeScrollLatch b).faultMark = s.faultMark := by unfold State.writeScrollLatch; split <;> rfl
@[simp] theorem State.writeScrollLatch_refusedMark (b : Byte) : (s.writeScrollLatch b).refusedMark = s.refusedMark := by unfold State.writeScrollLatch; split <;> rfl
@[simp] theorem State.writeScrollLatch_pending (b : Byte) : (s.writeScrollLatch b).pending = s.pending := by unfold State.writeScrollLatch; split <;> rfl
@[simp] theorem State.writeScrollLatch_supplier (b : Byte) : (s.writeScrollLatch b).supplier = s.supplier := by unfold State.writeScrollLatch; split <;> rfl
@[simp] theorem State.writeScrollLatch_result (b : Byte) : (s.writeScrollLatch b).result = s.result := by unfold State.writeScrollLatch; split <;> rfl
@[simp] theorem State.writeScrollLatch_draws (b : Byte) : (s.writeScrollLatch b).draws = s.draws := by unfold State.writeScrollLatch; split <;> rfl
@[simp] theorem State.writeScrollLatch_scrollW (b : Byte) : (s.writeScrollLatch b).scrollW = s.scrollW.flip := by unfold State.writeScrollLatch; split <;> rfl

theorem State.writeAddrLatch_addr (b : Byte) : (s.writeAddrLatch b).addr =
    (match s.addrW with | .expectHigh => withHighByte s.addr b | .expectLow => withLowByte s.addr b) := by
  unfold State.writeAddrLatch; cases s.addrW <;> rfl

theorem State.writeScrollLatch_scroll0 (b : Byte) : (s.writeScrollLatch b).scroll0 =
    (match s.scrollW with | .expectHigh => b | .expectLow => s.scroll0) := by
  unfold State.writeScrollLatch; cases s.scrollW <;> rfl

theorem State.writeScrollLatch_scroll1 (b : Byte) : (s.writeScrollLatch b).scroll1 =
    (match s.scrollW with | .expectHigh => s.scroll1 | .expectLow => b) := by
  unfold State.writeScrollLatch; cases s.scrollW <;> rfl

@[simp] theorem Toggle.flip_flip (t : Toggle) : t.flip.flip = t := by cases t <;> rfl
@[simp] theorem Toggle.flip_expectHigh : Toggle.flip .expectHigh = .expectLow := rfl
@[simp] theorem Toggle.flip_expectLow : Toggle.flip .expectLow = .expectHigh := rfl

end Sys2Proof.Machine
end

