-- ==== Sys2Proof/Laws/Ops.lean ====
section
/-! SUPPORT. What each shared operation can do, said once. -/

namespace Sys2Proof.Machine

/-! ### Places -/

/-- A write to one place leaves the byte at every other place, in any state. -/
theorem State.readPlace_writePlace_other (s : State) (pl ql : Place) (v : Byte) (h : ql ≠ pl) :
    (s.writePlace pl v).readPlace ql = s.readPlace ql := by
  cases pl <;> cases ql <;> simp only [State.readPlace, State.writePlace] <;>
    exact Memory.read_write_other _ _ _ _ fun e => h (by rw [e])

/-- In canonical stores a written place reads the written byte. -/
theorem State.readPlace_writePlace_same (s : State) (pl : Place) (v : Byte) (h : s.Canonical) :
    (s.writePlace pl v).readPlace pl = v := by
  obtain ⟨hn, hp, ho, hc⟩ := h
  cases pl <;> simp only [State.readPlace, State.writePlace] <;> exact Memory.read_write_same _ _ _ (by assumption)

theorem State.writePlace_canonical (s : State) (pl : Place) (v : Byte) (h : s.Canonical) :
    (s.writePlace pl v).Canonical := by
  obtain ⟨hn, hp, ho, hc⟩ := h
  cases pl <;> refine ⟨?_, ?_, ?_, ?_⟩ <;> simp only [State.writePlace] <;>
    first | assumption | exact Memory.write_wf _ _ _ (by assumption)

/-- `readPlace` depends on the four stores only. -/
theorem State.readPlace_congr {s t : State} (hn : t.nt = s.nt) (hp : t.pal = s.pal) (ho : t.oam = s.oam)
    (hc : t.chr = s.chr) (pl : Place) : t.readPlace pl = s.readPlace pl := by
  cases pl <;> simp [State.readPlace, hn, hp, ho, hc]

@[simp] theorem State.incrementAddr_readPlace (s : State) (k : PpuAddr) (pl : Place) :
    (s.incrementAddr k).readPlace pl = s.readPlace pl := State.readPlace_congr rfl rfl rfl rfl pl

@[simp] theorem State.returns_readPlace (s : State) (v : Byte) (pl : Place) :
    (s.returns v).readPlace pl = s.readPlace pl := State.readPlace_congr rfl rfl rfl rfl pl

@[simp] theorem State.writeAddrLatch_readPlace (s : State) (b : Byte) (pl : Place) :
    (s.writeAddrLatch b).readPlace pl = s.readPlace pl := State.readPlace_congr (by simp) (by simp) (by simp) (by simp) pl

@[simp] theorem State.writeScrollLatch_readPlace (s : State) (b : Byte) (pl : Place) :
    (s.writeScrollLatch b).readPlace pl = s.readPlace pl := State.readPlace_congr (by simp) (by simp) (by simp) (by simp) pl

@[simp] theorem State.setOamAddr_readPlace (s : State) (v : Byte) (pl : Place) :
    (s.setOamAddr v).readPlace pl = s.readPlace pl := State.readPlace_congr rfl rfl rfl rfl pl

@[simp] theorem State.setRdbuf_readPlace (s : State) (v : Byte) (pl : Place) :
    (s.setRdbuf v).readPlace pl = s.readPlace pl := State.readPlace_congr rfl rfl rfl rfl pl

/-- The DMA source depends on the supplier and the draw counter only. -/
theorem State.pageByte_congr {s t : State} (hs : t.supplier = s.supplier) (hd : t.draws = s.draws) (p : Byte) :
    t.pageByte p = s.pageByte p := by
  funext i
  simp only [State.pageByte, State.cpuMemRead, hs, hd]

/-- A page copy writes OAM[0..255] and nothing else. -/
theorem State.oamLeft_of_not_reentrant (s : State) (k : Refusal) (h : ∀ w, k ≠ .reentrantAccess w) : s.oamLeft k = s.oam := by
  cases k with
  | reentrantAccess w => exact absurd rfl (h w)
  | _ => rfl

/-- A refusal that is no re-entrant access leaves everything but its mark. -/
theorem State.record_refused_of_not_reentrant (s : State) (k : Refusal) (h : ∀ w, k ≠ .reentrantAccess w) :
    s.record (.refused k) = { s with refusedMark := some k } := by
  simp only [State.record, s.oamLeft_of_not_reentrant k h]

theorem State.oamLeft_of_marked (s : State) (k j : Refusal) (h : s.refusedMark = some j) : s.oamLeft k = s.oam := by
  unfold State.oamLeft; rw [h]; cases k <;> rfl

/-- Everything a refusal can leave in OAM: some first part of the copies of the OAMDMA at the list's head, or OAM as it
was. -/
theorem State.oamLeft_cases (s : State) (k : Refusal) :
    s.oamLeft k = s.oam ∨ ∃ w q rest p, k = .reentrantAccess w ∧ s.refusedMark = none ∧ s.pending = q :: rest ∧
      decode q.word = .ok (.oamDma p) ∧
      s.oamLeft k = s.oam.fill (Config.copiesDone s.draws p w).val ((s.accept q rest).pageByte p) := by
  unfold State.oamLeft
  split
  · split
    · exact .inr ⟨_, _, _, _, rfl, ‹_›, ‹_›, ‹_›, rfl⟩
    · exact .inl rfl
  · exact .inl rfl

/-- A refusal leaves OAM canonical and in its size. -/
theorem State.oamLeft_keeps (s : State) (k : Refusal) (h : Memory.wf s.oam) (h' : Memory.within 256 s.oam) :
    Memory.wf (s.oamLeft k) ∧ Memory.within 256 (s.oamLeft k) := by
  rcases s.oamLeft_cases k with e | ⟨w, q, rest, p, _, _, _, _, e⟩ <;> rw [e]
  · exact ⟨h, h'⟩
  · exact ⟨Memory.fill_wf _ _ _ h, Memory.fill_within _ _ _ _ h' (by have := (Config.copiesDone s.draws p w).isLt; omega)⟩

theorem State.copyPage_readPlace_other (s : State) (p : Byte) (pl : Place) (h : ∀ i, i < 256 → pl ≠ .oam i) :
    (s.copyPage p).readPlace pl = s.readPlace pl := by
  cases pl with
  | oam i =>
    have hi : 256 ≤ i := Nat.le_of_not_lt fun hlt => h i hlt rfl
    simp only [State.readPlace, State.copyPage_oam]
    exact Memory.read_fill_outside _ _ _ _ hi
  | _ => simp [State.readPlace]

/-- After a page copy, OAM[i] holds the `i`-th byte of the source page. -/
theorem State.copyPage_readPlace_oam (s : State) (p : Byte) (i : Nat) (hi : i < 256) (h : Memory.wf s.oam) :
    (s.copyPage p).readPlace (.oam i) = s.cpuMemRead (dmaSource p i) := by
  simp only [State.readPlace, State.copyPage_oam]
  exact Memory.read_fill_inside _ _ _ h _ hi

/-! ### Address decode -/

theorem regionOf_pattern_iff (a : PpuAddr) : regionOf a = .pattern ↔ a.toNat ≤ 0x1FFF := by
  unfold regionOf; split
  · simp [*]
  · split <;> simp [*]

theorem regionOf_palette_iff (a : PpuAddr) : regionOf a = .palette ↔ 0x3F00 ≤ a.toNat := by
  unfold regionOf; split
  · simp only [reduceCtorEq, false_iff]; omega
  · split
    · simp only [reduceCtorEq, false_iff]; omega
    · simp only [true_iff]; omega

theorem regionOf_nametable_iff (a : PpuAddr) : regionOf a = .nametable ↔ 0x2000 ≤ a.toNat ∧ a.toNat ≤ 0x3EFF := by
  unfold regionOf; split
  · simp only [reduceCtorEq, false_iff]; omega
  · split
    · simp only [true_iff]; omega
    · simp only [reduceCtorEq, false_iff]; omega

theorem State.outOfRange_iff (s : State) (a : PpuAddr) :
    s.outOfRange a = true ↔ a.toNat ≤ 0x1FFF ∧ s.chrSize ≤ a.toNat := by
  simp [State.outOfRange, regionOf_pattern_iff]

theorem State.outOfRange_false_iff (s : State) (a : PpuAddr) :
    s.outOfRange a = false ↔ ¬(a.toNat ≤ 0x1FFF ∧ s.chrSize ≤ a.toNat) := by
  rw [← s.outOfRange_iff]; simp

theorem State.storePlace_eq (s : State) (a : PpuAddr) :
    s.storePlace a = if a.toNat ≤ 0x1FFF ∧ s.chrWritable = false then none else some (s.place a) := by
  simp [State.storePlace, regionOf_pattern_iff]

theorem paletteIndex_lt (a : PpuAddr) : paletteIndex a < 32 := Nat.mod_lt _ (by decide)

/-- Where a store lands, its index is inside the store's size unless the address is out of range. -/
theorem State.writePlace_inSize (s : State) (a : PpuAddr) (v : Byte) (hr : s.outOfRange a = false) (h : s.InSize) :
    (s.writePlace (s.place a) v).InSize := by
  obtain ⟨hn, hp, ho, hc⟩ := h
  unfold State.place
  cases hreg : regionOf a with
  | pattern =>
    have ha : a.toNat < s.chrSize := by
      simpa [State.outOfRange, hreg] using hr
    exact ⟨hn, hp, ho, Memory.write_within _ _ _ _ hc ha⟩
  | nametable => exact ⟨Memory.write_within _ _ _ _ hn (mirrorDecode s.mirrorMode a).isLt, hp, ho, hc⟩
  | palette => exact ⟨hn, Memory.write_within _ _ _ _ hp (paletteIndex_lt a), ho, hc⟩

/-! ### The PPU-space access -/

theorem State.memRead_cases (s : State) (a : PpuAddr) :
    (s.outOfRange a = true ∧ s.memRead a = .error (.patternOutOfRange a)) ∨
    (s.outOfRange a = false ∧ s.memRead a = .ok (s.readPlace (s.place a))) := by
  unfold State.memRead; cases s.outOfRange a <;> simp

theorem State.memWrite_cases (s : State) (a : PpuAddr) (v : Byte) :
    (s.storePlace a = none ∧ s.memWrite a v = .ok s) ∨
    (s.storePlace a = some (s.place a) ∧ s.outOfRange a = true ∧ s.memWrite a v = .error (.patternOutOfRange a)) ∨
    (s.storePlace a = some (s.place a) ∧ s.outOfRange a = false ∧ s.memWrite a v = .ok (s.writePlace (s.place a) v)) := by
  unfold State.memWrite State.storePlace
  by_cases h : regionOf a = .pattern ∧ s.chrWritable = false
  · simp [h]
  · cases ho : s.outOfRange a <;> simp [h]

/-! ### The meanings that can stop, by case -/

/-- W DATA stores nothing, faults, or stores one byte; in the first and last case ADDR advances. -/
theorem execWData_cases (d : Byte) (s : State) :
    (s.storePlace s.addr = none ∧ execWData d s = .next (s.incrementAddr s.incrementStep)) ∨
    (s.storePlace s.addr = some (s.place s.addr) ∧ s.outOfRange s.addr = true ∧
      execWData d s = .fault (.patternOutOfRange s.addr)) ∨
    (s.storePlace s.addr = some (s.place s.addr) ∧ s.outOfRange s.addr = false ∧
      execWData d s = .next ((s.writePlace (s.place s.addr) d).incrementAddr s.incrementStep)) := by
  rcases s.memWrite_cases s.addr d with ⟨h, e⟩ | ⟨h, ho, e⟩ | ⟨h, ho, e⟩
  · exact .inl ⟨h, by simp [execWData, e]⟩
  · exact .inr (.inl ⟨h, ho, by simp [execWData, e]⟩)
  · exact .inr (.inr ⟨h, ho, by simp [execWData, e, State.incrementStep]⟩)

/-- R DATA faults, reads the palette, or goes through RDBUF. -/
theorem execRData_cases (s : State) :
    (s.outOfRange s.addr = true ∧ execRData s = .fault (.patternOutOfRange s.addr)) ∨
    (s.outOfRange s.addr = false ∧ 0x3F00 ≤ s.addr.toNat ∧
      execRData s = .next ((s.incrementAddr s.incrementStep).returns (s.readPlace (s.place s.addr)))) ∨
    (s.outOfRange s.addr = false ∧ s.addr.toNat < 0x3F00 ∧
      execRData s = .next
        (((s.setRdbuf (s.readPlace (s.place s.addr))).incrementAddr s.incrementStep).returns s.rdbuf)) := by
  rcases s.memRead_cases s.addr with ⟨ho, e⟩ | ⟨ho, e⟩
  · exact .inl ⟨ho, by simp [execRData, e]⟩
  · by_cases h : 0x3F00 ≤ s.addr.toNat
    · exact .inr (.inl ⟨ho, h, by simp [execRData, e, h]⟩)
    · exact .inr (.inr ⟨ho, by omega, by simp [execRData, e, h]⟩)

/-- OAMDMA copies a page, or is refused because its supplier issued an operation. -/
theorem execOamDma_cases (p : Byte) (s : State) :
    (s.supplier.reentrant = none ∧ execOamDma p s = .next (s.copyPage p)) ∨
    (∃ w, s.supplier.reentrant = some w ∧ execOamDma p s = .refused (.reentrantAccess w)) := by
  unfold execOamDma
  cases h : s.supplier.reentrant with
  | none => exact .inl ⟨rfl, rfl⟩
  | some w => exact .inr ⟨w, rfl, rfl⟩

/-- ENVSTAT sets the flags, or is refused for an operand that no word decodes to. -/
theorem execEnvStat_cases (f : Byte) (s : State) :
    (envOperandLegal f ∧
      execEnvStat f s = .next (s.setStatusFlags (envVblank f) (envSprite0Hit f) (envSpriteOverflow f))) ∨
    (¬envOperandLegal f ∧ execEnvStat f s = .refused (.reservedEncoding (encode (.envStat f)))) := by
  unfold execEnvStat
  by_cases h : envOperandLegal f
  · exact .inl ⟨h, if_pos h⟩
  · exact .inr ⟨h, if_neg h⟩

/-! ### STATUS keeps its low bits -/

theorem flagSet_low (r : Byte) (i : Fin 8) (b : Bool) (hi : 5 ≤ i.val) :
    (flagSet r i b).extractLsb' 0 5 = r.extractLsb' 0 5 := by
  revert hi; revert i; revert b; revert r; decide

end Sys2Proof.Machine
end

