-- ==== Sys2Proof/Laws/PerInstr.lean ====
section
/-! SUPPORT. Per-instruction families, one lemma per constructor. -/

namespace Sys2Proof.Laws.TableRow

/-- The word the encoder writes for a well-formed operation belongs to the opcode table's row of that name. -/
def Statement (i : Instr) : Prop :=
  WellFormed i → ∃ r ∈ opcodeTable, r.mnemonic = mnemonicOf i ∧ r.admits (encode i) = true

/-- From the row's place in the table to the statement. -/
theorem of_row (i : Instr) (k : Fin 13) (hm : (opcodeTable.get k).mnemonic = mnemonicOf i)
    (ha : WellFormed i → (opcodeTable.get k).admits (encode i) = true) : Statement i :=
  fun hi => ⟨opcodeTable.get k, List.get_mem _ _, hm, ha hi⟩

theorem wCtrl (d : Byte) : Statement (.wCtrl d) := of_row _ 0 rfl fun _ => by revert d; decide
theorem wMask (d : Byte) : Statement (.wMask d) := of_row _ 1 rfl fun _ => by revert d; decide
theorem wStatus (d : Byte) : Statement (.wStatus d) := of_row _ 2 rfl fun _ => by revert d; decide
theorem wOamAddr (d : Byte) : Statement (.wOamAddr d) := of_row _ 3 rfl fun _ => by revert d; decide
theorem wOamData (d : Byte) : Statement (.wOamData d) := of_row _ 4 rfl fun _ => by revert d; decide
theorem wScroll (d : Byte) : Statement (.wScroll d) := of_row _ 5 rfl fun _ => by revert d; decide
theorem wAddr (d : Byte) : Statement (.wAddr d) := of_row _ 6 rfl fun _ => by revert d; decide
theorem wData (d : Byte) : Statement (.wData d) := of_row _ 7 rfl fun _ => by revert d; decide
theorem rStatus : Statement .rStatus := of_row _ 8 rfl fun _ => by decide
theorem rOamData : Statement .rOamData := of_row _ 9 rfl fun _ => by decide
theorem rData : Statement .rData := of_row _ 10 rfl fun _ => by decide
theorem oamDma (p : Byte) : Statement (.oamDma p) := of_row _ 11 rfl fun _ => by revert p; decide
theorem envStat (f : Byte) : Statement (.envStat f) := of_row _ 12 rfl (by revert f; decide)

end Sys2Proof.Laws.TableRow
end

