-- ==== Sys2Proof/Tests/Slice0.lean ====
section
/-! SUPPORT. Tests whose expected results stand in spec/95_test_vectors.md (the vector is named beside each), and for
every statement with hypotheses a witness that meets them. -/

namespace Sys2Proof.Machine.Tests

/-- The next state of an answer. -/
def nextOf (o : Answer) : Option State := match o with | .next t => some t | _ => none

/-- The fault of an answer. -/
def faultOf (o : Answer) : Option Fault := match o with | .fault k => some k | _ => none

/-- The refusal of an answer. -/
def refusalOf (o : Answer) : Option Refusal := match o with | .refused k => some k | _ => none

/-- A small state: construction, the data-port address `a`, the control byte `c`, and the read buffer 0x11. -/
def at_ (a : PpuAddr) (c : Byte) : State := { State.reset with addr := a, ctrl := c, rdbuf := 0x11 }

/-- Construction with one issued operation. -/
def withWord (w : OpWord) : State := { State.reset with pending := [issueOf w] }

/-- A CPU page 0x0200 of which the first, the second and the last byte are known (of O5). -/
def knownPage : Supplier := ⟨[(0x200, 0xFF), (0x201, 0xFE), (0x2FF, 0x00)], none⟩

/-- Construction with OAMDMA #0x02 issued, whose supplier issues the word `w` while it answers (O9). -/
def withReentrant (w : OpWord) : State := { State.reset with pending := [⟨0x1002, ⟨knownPage.known, some w⟩⟩] }

/-! ### Well-formedness: an ill-formed term for each check -/

/-- R123: each of ENVSTAT's five low bits. -/
theorem test_wellFormed_refuses_envstat_low_bits :
    wellFormed (.envStat 0x81) = false ∧ wellFormed (.envStat 0x02) = false ∧ wellFormed (.envStat 0x04) = false ∧
    wellFormed (.envStat 0x08) = false ∧ wellFormed (.envStat 0x10) = false := by decide

theorem test_wellFormed_accepts :
    wellFormed (.envStat 0xE0) = true ∧ wellFormed (.wAddr 0xFF) = true ∧ wellFormed .rData = true := by decide

/-! ### Decoding: words written out bit by bit, SPACE RW SEL DATA (R111, R115) -/

/-- The flag family: E1, R115, F8, E3, E7. -/
theorem test_decode_flag_words :
    decode 0b0_0_000_10000100#13 = .ok (.wCtrl 0x84) ∧ decode 0b0_0_001_00011000#13 = .ok (.wMask 0x18) ∧
    decode 0b0_0_010_11111111#13 = .ok (.wStatus 0xFF) ∧ decode 0b0_1_010_11111111#13 = .ok .rStatus ∧
    decode 0b1_0_001_10100000#13 = .ok (.envStat 0xA0) := by decide

/-- The latch family: the words of P4. -/
theorem test_decode_latch_words :
    decode 0b0_0_110_11000000#13 = .ok (.wAddr 0xC0) ∧ decode 0b0_0_101_00001000#13 = .ok (.wScroll 0x08) := by decide

/-- The data port family: E2, E4. -/
theorem test_decode_data_words :
    decode 0b0_0_111_11111111#13 = .ok (.wData 0xFF) ∧ decode 0b0_1_111_01011010#13 = .ok .rData := by decide

/-- The OAM family: O1, O2, E4, E6. -/
theorem test_decode_oam_words :
    decode 0b0_0_011_10000000#13 = .ok (.wOamAddr 0x80) ∧ decode 0b0_0_100_00100010#13 = .ok (.wOamData 0x22) ∧
    decode 0b0_1_100_00000000#13 = .ok .rOamData ∧ decode 0b1_0_000_00000010#13 = .ok (.oamDma 0x02) := by decide

/-- E5, E8, E9. -/
theorem test_decode_reserved_words :
    [0x800#13, 0x9AB#13, 0xB00#13, 0xD01#13, 0xE12#13, 0x1101#13, 0x111F#13, 0x1200#13, 0x17FF#13, 0x1800#13, 0x1FFF#13].all
      (fun w => decode w == .error (.reservedEncoding w)) = true := by decide

/-- The hexadecimal words of P1, P4, P5 and E6, as the program listings write them. -/
theorem test_encode_listing_words :
    encode (.wAddr 0x3F) = 0x63F#13 ∧ encode (.wData 0x0F) = 0x70F#13 ∧ encode (.wScroll 0x10) = 0x510#13 ∧
    encode (.envStat 0x80) = 0x1180#13 ∧ encode (.oamDma 0x02) = 0x1002#13 ∧ encode .rData = 0xF00#13 := by decide

/-- The opcode table's rows do not overlap. -/
theorem test_rows_do_not_overlap :
    opcodeTable.Pairwise (fun r q => (r.pattern ^^^ q.pattern) &&& (r.mask &&& q.mask) ≠ 0#13) := by decide

/-- The texts of P1 (step 5) and P5 (step 2), a named result and a comment (R126). -/
theorem test_text :
    instrOfText "W DATA, #0x30".toList = some (.wData 0x30) ∧
    instrOfText "ENVSTAT #128 ; vblank".toList = some (.envStat 0x80) ∧
    instrOfText "R STATUS -> s".toList = some .rStatus ∧ instrOfText "R ADDR".toList = none := by decide

/-- The expansions of R127's table. -/
theorem test_pseudo_text :
    operationsOfText "SETADDR #0x2005".toList = some [.rStatus, .wAddr 0x20, .wAddr 0x05] ∧
    operationsOfText "SETSCROLL #17, #0x22".toList = some [.rStatus, .wScroll 0x11, .wScroll 0x22] ∧
    operationsOfText "PRIME".toList = some [.rData] := by decide

/-! ### Memory decode and mirror router -/

/-- M1 to M4. -/
theorem test_mirror_quadrant_ends :
    [0x23FF#14, 0x27FF#14, 0x2BFF#14, 0x2FFF#14].map (mirrorDecode .horizontal) = [0x3FF#11, 0x3FF#11, 0x7FF#11, 0x7FF#11] ∧
    [0x23FF#14, 0x27FF#14, 0x2BFF#14, 0x2FFF#14].map (mirrorDecode .vertical) = [0x3FF#11, 0x7FF#11, 0x3FF#11, 0x7FF#11] := by
  decide

/-- M5 to M8. -/
theorem test_mirror_fold :
    [0x3000#14, 0x3EFF#14, 0x3400#14, 0x3BC5#14].map (mirrorDecode .horizontal) = [0x000#11, 0x6FF#11, 0x000#11, 0x7C5#11] ∧
    [0x3000#14, 0x3EFF#14, 0x3400#14, 0x3BC5#14].map (mirrorDecode .vertical) = [0x000#11, 0x6FF#11, 0x400#11, 0x3C5#11] := by
  decide

/-- L1-6, L1-7. -/
theorem test_mirror_source_vectors :
    [0x2000#14, 0x2400#14, 0x2800#14, 0x2C00#14].map (mirrorDecode .horizontal) = [0x000#11, 0x000#11, 0x400#11, 0x400#11] ∧
    [0x2000#14, 0x2400#14, 0x2800#14, 0x2C00#14].map (mirrorDecode .vertical) = [0x000#11, 0x400#11, 0x000#11, 0x400#11] := by
  decide

/-- M9. -/
theorem test_regions :
    [0x1FFF#14, 0x2000#14, 0x3EFF#14, 0x3F00#14].map regionOf = [.pattern, .nametable, .nametable, .palette] := by decide

/-- M10, M11, L1-12. -/
theorem test_palette_index :
    [0x3F10#14, 0x3F14#14, 0x3F18#14, 0x3F1C#14, 0x3F35#14, 0x3FE3#14, 0x3F1F#14, 0x3F20#14, 0x3FFF#14].map paletteIndex =
      [16, 20, 24, 28, 21, 3, 31, 0, 31] := by decide

/-! ### One step of each operation -/

/-- F2. -/
theorem test_wCtrl_replaces :
    (nextOf (exec (.wCtrl 0xFB) { State.reset with ctrl := 0x04 })).map (fun t => (t.ctrl, t.incrementStep, t.nmiEnabled)) =
      some (0xFB, 1, true) := by decide

/-- N5: the request is a level. -/
theorem test_wCtrl_raises_the_request :
    (nextOf (exec (.wCtrl 0x80) { State.reset with status := 0x80 })).map State.nmiRequested = some true := by decide

/-- F3. -/
theorem test_wMask : nextOf (exec (.wMask 0xFF) State.reset) = some { State.reset with mask := 0xFF } := by decide

/-- F8. -/
theorem test_wStatus_changes_nothing :
    nextOf (exec (.wStatus 0xFF) { State.reset with status := 0x80, addrW := .expectLow }) =
      some { State.reset with status := 0x80, addrW := .expectLow } := by decide

/-- F4. -/
theorem test_rStatus :
    nextOf (exec .rStatus { State.reset with status := 0xE0, addrW := .expectLow, scrollW := .expectLow, addr := 0x2345 }) =
      some { State.reset with status := 0x60, addr := 0x2345, result := some 0xE0 } := by decide

/-- N4. -/
theorem test_rStatus_ends_the_request :
    (nextOf (exec .rStatus { State.reset with status := 0x80, ctrl := 0x80 })).map State.nmiRequested = some false := by decide

/-- F12. -/
theorem test_envStat_keeps_the_toggle :
    nextOf (exec (.envStat 0x80) { State.reset with addrW := .expectLow }) =
      some { State.reset with addrW := .expectLow, status := 0x80 } := by decide

/-- F11. -/
theorem test_envStat_low_bit_is_refused :
    (withWord 0x1181).after = { withWord 0x1181 with refusedMark := some (.reservedEncoding 0x1181) } := by decide

/-- A2: the top two bits of a high byte are masked away. -/
theorem test_wAddr_masks :
    nextOf (exec (.wAddr 0xC0) State.reset) = some { State.reset with addrW := .expectLow } := by decide

/-- A4, and the second write of L1-1. -/
theorem test_wAddr_keeps_the_other_slot :
    (nextOf (exec (.wAddr 0x20) (at_ 0x1234 0))).map (fun t => (t.addr, t.addrW)) = some (0x2034, .expectLow) ∧
    (nextOf (exec (.wAddr 0x34) { State.reset with addr := 0x1200, addrW := .expectLow })).map (fun t => (t.addr, t.addrW)) =
      some (0x1234, .expectHigh) := by decide

/-- A9, the first write. -/
theorem test_wScroll_first :
    nextOf (exec (.wScroll 0xFF) State.reset) = some { State.reset with scroll0 := 0xFF, scrollW := .expectLow } := by decide

/-- A8, the second write. -/
theorem test_wScroll_second :
    nextOf (exec (.wScroll 0x5E) { State.reset with scroll0 := 0x7D, scrollW := .expectLow }) =
      some { State.reset with scroll0 := 0x7D, scroll1 := 0x5E } := by decide

/-- D4: the palette index and the wrap of the address at once. -/
theorem test_wData_palette_wraps :
    (nextOf (exec (.wData 0x13) (at_ 0x3FE0 0x04))).map (fun t => (t.pal, t.addr, t.rdbuf)) = some ([(0, 0x13)], 0x0000, 0x11) := by
  decide

/-- D7, D8: a short pattern memory, with writes enabled and not. -/
theorem test_wData_past_pattern_memory :
    faultOf (exec (.wData 0xAB) { at_ 0x1000 0 with chrSize := 0x1000 }) = some (.patternOutOfRange 0x1000) ∧
    nextOf (exec (.wData 0xAB) { at_ 0x1000 0 with chrSize := 0x1000, chrWritable := false }) =
      some { at_ 0x1001 0 with chrSize := 0x1000, chrWritable := false } := by decide

/-- D11, the first read: the byte before the palette, mirrored, is loaded. -/
theorem test_rData_buffered :
    nextOf (exec .rData { at_ 0x3EFF 0 with nt := [(0x6FF, 0x66)], pal := [(0, 0x0F)] }) =
      some { at_ 0x3F00 0 with nt := [(0x6FF, 0x66)], pal := [(0, 0x0F)], rdbuf := 0x66, result := some 0x11 } := by decide

/-- D10. -/
theorem test_rData_direct :
    (nextOf (exec .rData { at_ 0x3F00 0 with pal := [(0, 0x0F)] })).map (fun t => (t.result, t.addr, t.rdbuf)) =
      some (some 0x0F, 0x3F01, 0x11) := by decide

/-- O1. -/
theorem test_wOamAddr : nextOf (exec (.wOamAddr 0x80) State.reset) = some { State.reset with oamAddr := 0x80 } := by decide

/-- O2. -/
theorem test_wOamData_wraps :
    nextOf (exec (.wOamData 0x22) { State.reset with oamAddr := 0xFF }) = some { State.reset with oam := [(0xFF, 0x22)] } := by
  decide

/-- O3. -/
theorem test_rOamData_keeps_the_pointer :
    nextOf (exec .rOamData { State.reset with oamAddr := 0x10, oam := [(0x10, 0x3C)] }) =
      some { State.reset with oamAddr := 0x10, oam := [(0x10, 0x3C)], result := some 0x3C } := by decide

/-- O5: the source of the first, second and last copy; D16: the pointer stays. -/
theorem test_oamDma_source :
    [0, 1, 255].map ({ State.reset with supplier := knownPage }.pageByte 0x02) = [0xFF, 0xFE, 0x00] ∧
    dmaSource 0xFF 255 = 0xFFFF#16 ∧
    (∃ t, exec (.oamDma 0x02) { State.reset with oamAddr := 0x80 } = .next t ∧ t.oamAddr = 0x80) :=
  ⟨by decide, by decide, _, rfl, rfl⟩

/-- O9. -/
theorem test_oamDma_reentrant :
    refusalOf (exec (.oamDma 0x02) { State.reset with supplier := ⟨[], some 0xA00⟩ }) = some (.reentrantAccess 0xA00) := by
  decide

/-! ### Marks, queries, construction -/

/-- X2: the second word is not taken. -/
theorem test_refused_block_takes_nothing :
    ({ State.reset with pending := [issueOf 0x800, issueOf 0xA00] }.after).after =
      { State.reset with pending := [issueOf 0x800, issueOf 0xA00], refusedMark := some (.reservedEncoding 0x800) } := by decide

/-- X3. -/
theorem test_fault_keeps_the_state :
    State.after { at_ 0x1FFF 0 with chrSize := 0x1000, pending := [issueOf 0xF00] } =
      { at_ 0x1FFF 0 with chrSize := 0x1000, pending := [issueOf 0xF00], faultMark := some (.patternOutOfRange 0x1FFF) } ∧
    faultCode (.patternOutOfRange 0x1FFF) = 1 := by decide

/-- X4, X5. -/
theorem test_queries :
    { State.reset with status := 0x80 }.peekStatus = 0x80 ∧
    { State.reset with mirrorMode := .vertical, nt := [(0x405, 0x12)] }.peekNametable 0x2C05 = some 0x12 := by decide

/-- Construction with the given pattern memory, the draws 0x11 and zeros. -/
def paramsOf (chr : List Byte) : Params :=
  ⟨chr, .vertical, false, 0x11, Vector.replicate 2048 0, Vector.replicate 32 0, Vector.replicate 256 0⟩

/-- X1. -/
theorem test_empty_pattern_memory :
    refusalOf (construct (paramsOf [])) = some .emptyPatternMemory ∧ refusalCode .emptyPatternMemory = some 18 := ⟨rfl, rfl⟩

/-! ### Witnesses: encoding and steps -/

theorem witness_DecodeEncodeRoundTrip : WellFormed (.wCtrl 0xFF) ∧ WellFormed .rData ∧ WellFormed (.envStat 0xE0) := by decide

theorem witness_DecodedWordsReEncode :
    decode 0x1FF#13 = .ok (.wMask 0xFF) ∧ decode 0xAFF#13 = .ok .rStatus ∧ decode 0x11E0#13 = .ok (.envStat 0xE0) := by decide

/-- The words 0x1200 and 0x1FFF, then 0x800 and 0xEFF, then 0x1101, at the head of the list of an unmarked block. -/
theorem witness_ReservedWordsAreRefused :
    ([0x1200#13, 0x1FFF#13, 0x800#13, 0xEFF#13, 0x1101#13].all fun w =>
      decide ((withWord w).faultMark = none ∧ (withWord w).refusedMark = none ∧ (withWord w).pending = issueOf w :: [])) = true ∧
    ([0x1200#13, 0x1FFF#13].all fun w =>
      decide (w.getLsbD 12 = true ∧ w.extractLsb' 8 4 ≠ 0b0000#4 ∧ w.extractLsb' 8 4 ≠ 0b0001#4)) = true ∧
    ([0x800#13, 0xEFF#13].all fun w => decide (w.getLsbD 12 = false ∧ w.getLsbD 11 = true ∧
      (w.extractLsb' 8 3 = 0#3 ∨ w.extractLsb' 8 3 = 1#3 ∨ w.extractLsb' 8 3 = 3#3 ∨ w.extractLsb' 8 3 = 5#3 ∨
        w.extractLsb' 8 3 = 6#3))) = true ∧
    ((0x1101#13 : OpWord).extractLsb' 8 5 = 0b10001#5 ∧ (0x1101#13 : OpWord).extractLsb' 0 5 ≠ 0#5) := by decide

theorem witness_CpuBusBinding :
    (0x2000 ≤ (0x2000#16).toNat ∧ (0x2000#16).toNat ≤ 0x3FFF) ∧ (0x2000 ≤ (0x3FFF#16).toNat ∧ (0x3FFF#16).toNat ≤ 0x3FFF) ∧
    ((0x1FFF#16).toNat < 0x2000 ∧ 0x1FFF#16 ≠ 0x4014#16) ∧ (0x3FFF < (0x4013#16).toNat ∧ 0x4013#16 ≠ 0x4014#16) := by decide

theorem witness_StepRunsTheIssuedOperation :
    (withWord 0xA00).faultMark = none ∧ (withWord 0xA00).refusedMark = none ∧
    (withWord 0xA00).pending = issueOf 0xA00 :: [] ∧ decode (issueOf 0xA00).word = .ok .rStatus := by decide

theorem witness_NothingIssuedNothingHappens :
    State.reset.faultMark = none ∧ State.reset.refusedMark = none ∧ State.reset.pending = [] := by decide

/-- Steps of an unmarked block: one that faults, one refused at decoding, one refused as a re-entrant OAMDMA. -/
theorem witness_MarkedBlockTakesNoOperation :
    (({ withWord 0xF00 with chrSize := 0 } : State).faultMark = none ∧
      ({ withWord 0xF00 with chrSize := 0 } : State).refusedMark = none ∧
      step { withWord 0xF00 with chrSize := 0 } = .fault (.patternOutOfRange 0)) ∧
    ((withWord 0x800).faultMark = none ∧ (withWord 0x800).refusedMark = none ∧
      step (withWord 0x800) = .refused (.reservedEncoding 0x800) ∧
      ∀ w, Refusal.reservedEncoding 0x800 ≠ .reentrantAccess w) ∧
    ((withReentrant 0xA00).faultMark = none ∧ (withReentrant 0xA00).refusedMark = none ∧
      step (withReentrant 0xA00) = .refused (.reentrantAccess 0xA00)) :=
  ⟨⟨rfl, rfl, rfl⟩, ⟨rfl, rfl, rfl, fun _ h => (nomatch h)⟩, rfl, rfl, rfl⟩

theorem witness_LaterOperationsAreUnseen : (withWord 0x620).pending ≠ [] := by decide

/-! ### Witnesses: flag registers and latches -/

theorem witness_WriteControlStoresTheByte :
    (0x80#8).getLsbD 7 = true ∧ ({ State.reset with status := 0x80 } : State).vblank = true := by decide

/-- The clause about the other operations: R DATA is one. -/
theorem witness_WriteMaskStoresTheByte : ∀ d, Instr.rData ≠ .wMask d := by intro d h; cases h

theorem witness_ReadStatusSnapshotThenSideEffects :
    ∃ t u, exec .rStatus { State.reset with status := 0xE0 } = .next t ∧ exec .rStatus t = .next u ∧
      ({ State.reset with status := 0xE0 } : State).Inv ∧ t.result = some 0xE0 :=
  ⟨_, _, rfl, rfl, by decide, by decide⟩

theorem witness_EnvStatSetsTheFlags :
    (0x00#8).extractLsb' 0 5 = 0#5 ∧ (0xE0#8).extractLsb' 0 5 = 0#5 ∧ (0x01#8).extractLsb' 0 5 ≠ 0#5 ∧
    (0x1F#8).extractLsb' 0 5 ≠ 0#5 := by decide

/-- One next state for each arm of the statement. -/
theorem witness_NmiRequestLevel :
    (∃ t, exec (.wCtrl 0x80) State.reset = .next t) ∧ (∃ t, exec .rStatus State.reset = .next t) ∧
    (∃ t, exec (.envStat 0xE0) State.reset = .next t) ∧ (∃ t, exec (.wData 0) State.reset = .next t) :=
  ⟨⟨_, rfl⟩, ⟨_, rfl⟩, ⟨_, rfl⟩, ⟨_, rfl⟩⟩

theorem witness_WriteAddressFillsASlot :
    State.reset.addrW = .expectHigh ∧ ({ State.reset with addrW := .expectLow } : State).addrW = .expectLow := by decide

theorem witness_WriteScrollFillsASlot :
    State.reset.scrollW = .expectHigh ∧ ({ State.reset with scrollW := .expectLow } : State).scrollW = .expectLow ∧
    ∀ d, Instr.rData ≠ .wScroll d := ⟨rfl, rfl, fun _ h => nomatch h⟩

/-- A construction, and a next state for each arm of both toggles' clauses. -/
theorem witness_ToggleStateMachine :
    construct (paramsOf [1]) = .next (State.constructed (paramsOf [1])) ∧
    (∃ t, exec (.wAddr 0) State.reset = .next t) ∧ (∃ t, exec (.wAddr 0) { State.reset with addrW := .expectLow } = .next t) ∧
    (∃ t, exec (.wScroll 0) State.reset = .next t) ∧
    (∃ t, exec (.wScroll 0) { State.reset with scrollW := .expectLow } = .next t) ∧
    (∃ t, exec .rStatus { State.reset with addrW := .expectLow, scrollW := .expectLow } = .next t) ∧
    (∃ t, exec .rData State.reset = .next t) :=
  ⟨rfl, ⟨_, rfl⟩, ⟨_, rfl⟩, ⟨_, rfl⟩, ⟨_, rfl⟩, ⟨_, rfl⟩, ⟨_, rfl⟩⟩

theorem witness_AddressPairCombines : State.reset.addrW = .expectHigh := rfl

theorem witness_AddressIncrementWraps : ((1#14 : PpuAddr) = 1#14 ∨ (1#14 : PpuAddr) = 32#14) ∧
    ((32#14 : PpuAddr) = 1#14 ∨ (32#14 : PpuAddr) = 32#14) := by decide

/-- A12: the half-written address 0x2100 and the store to it. -/
theorem witness_HalfWrittenAddress :
    ∃ t u, State.reset.addrW = .expectHigh ∧ exec (.wAddr 0x21) State.reset = .next t ∧ exec (.wData 0xAA) t = .next u ∧
      t.storePlace t.addr = some (.nt 0x100) ∧ State.reset.Canonical :=
  ⟨_, _, rfl, rfl, rfl, by decide, by decide⟩

theorem witness_PseudoOperationsExpand :
    State.reset.addrW = .expectHigh ∧ (at_ 0x3EFF 0).outOfRange (at_ 0x3EFF 0).addr = false ∧
    (at_ 0x3EFF 0).addr.toNat < 0x3F00 := by decide

/-- The last part: an operation of no port, W ADDR and W SCROLL, with both toggles at EXPECT_LOW. -/
theorem witness_LatchPrimitives :
    (∃ t, exec (.wCtrl 0) { State.reset with addrW := .expectLow, scrollW := .expectLow } = .next t) ∧
    (∃ t, exec (.wAddr 0) { State.reset with addrW := .expectLow, scrollW := .expectLow } = .next t) ∧
    (∃ t, exec (.wScroll 0) { State.reset with addrW := .expectLow, scrollW := .expectLow } = .next t) ∧
    Instr.wCtrl 0 ≠ .rStatus ∧ Instr.wAddr 0 ≠ .rStatus ∧ Instr.wScroll 0 ≠ .rStatus :=
  ⟨⟨_, rfl⟩, ⟨_, rfl⟩, ⟨_, rfl⟩, by decide, by decide, by decide⟩

/-! ### Witnesses: memory and the data port -/

theorem witness_RegionDecode :
    (0x1FFF#14).toNat ≤ 0x1FFF ∧ (0x2000 ≤ (0x2000#14).toNat ∧ (0x2000#14).toNat ≤ 0x3EFF) ∧
    (0x2000 ≤ (0x3EFF#14).toNat ∧ (0x3EFF#14).toNat ≤ 0x3EFF) ∧ 0x3F00 ≤ (0x3F00#14).toNat := by decide

theorem witness_MirrorClosedForm :
    (0x2000 ≤ (0x2000#14).toNat ∧ (0x2000#14).toNat ≤ 0x3EFF) ∧ (0x2000 ≤ (0x3EFF#14).toNat ∧ (0x3EFF#14).toNat ≤ 0x3EFF) := by
  decide

/-- The last byte of quadrant 3 at 0x2FFF, and the last folded address 0x3EFF. -/
theorem witness_QuadrantsGoToPhysicalTables :
    (0x3FF < 0x400 ∧ (0x2FFF#14).toNat = 0x2000 + (3 : Fin 4).val * 0x400 + 0x3FF) ∧
    (0x2FF < 0x400 ∧ (0x3EFF#14).toNat = 0x3000 + (3 : Fin 4).val * 0x400 + 0x2FF ∧ (0x3EFF#14).toNat ≤ 0x3EFF) := by decide

theorem witness_PhysicalOffsetsAreReachedTwice : 0x3F00 ≤ (0x3F00#14).toNat := by decide

theorem witness_ReadAfterWrite :
    ({ State.reset with pal := [(31, 0x2C)] } : State).Canonical ∧ Place.pal 30 ≠ .pal 31 ∧ Place.oam 31 ≠ .pal 31 := by decide

theorem witness_PaletteEntriesAreDistinct :
    0x3F00 ≤ (0x3F10#14).toNat ∧ 0x3F00 ≤ (0x3F00#14).toNat ∧ (at_ 0x3F10 0).addr = 0x3F10#14 ∧ (at_ 0x3F10 0).Canonical ∧
    (0x3F10#14).extractLsb' 0 5 ≠ (0x3F00#14).extractLsb' 0 5 := by decide

theorem witness_PatternRangeFaults :
    exec .rData { at_ 0x1FFF 0 with chrSize := 0x1FFF } = .fault (.patternOutOfRange 0x1FFF) ∧
    exec (.wData 0xAB) { at_ 0x1000 0 with chrSize := 0x1000 } = .fault (.patternOutOfRange 0x1000) ∧
    (at_ 0 0).place 0x1FFF = .chr 0x1FFF := ⟨rfl, rfl, by decide⟩

/-- The last byte of a short pattern memory, the byte past it with and without CHR_WRITABLE, the first nametable byte. -/
theorem witness_WriteDataStoresThenAdvances :
    (∀ s ∈ [({ at_ 0x0FFF 0 with chrSize := 0x1000 } : State), at_ 0x2000 4, at_ 0x3FFF 0],
      ¬(s.addr.toNat ≤ 0x1FFF ∧ s.chrWritable = true ∧ s.chrSize ≤ s.addr.toNat) ∧
      ¬(s.addr.toNat ≤ 0x1FFF ∧ s.chrWritable = false)) ∧
    (∀ s ∈ [({ at_ 0x1FFF 0 with chrSize := 0x1000, chrWritable := false } : State)],
      ¬(s.addr.toNat ≤ 0x1FFF ∧ s.chrWritable = true ∧ s.chrSize ≤ s.addr.toNat) ∧
      (s.addr.toNat ≤ 0x1FFF ∧ s.chrWritable = false)) ∧
    (∀ s ∈ [({ at_ 0x1000 0 with chrSize := 0x1000 } : State)],
      s.addr.toNat ≤ 0x1FFF ∧ s.chrWritable = true ∧ s.chrSize ≤ s.addr.toNat) := by decide

/-- The first palette address, the last buffered one and the last byte of a short pattern memory, the byte past it. -/
theorem witness_ReadDataBuffersBelowThePalette :
    0x3F00 ≤ (at_ 0x3F00 0).addr.toNat ∧
    (∀ s ∈ [at_ 0x3EFF 0, at_ 0x2000 4, ({ at_ 0x0FFF 0 with chrSize := 0x1000 } : State)],
      s.addr.toNat < 0x3F00 ∧ ¬(s.addr.toNat ≤ 0x1FFF ∧ s.chrSize ≤ s.addr.toNat)) ∧
    (∀ s ∈ [({ at_ 0x1000 0 with chrSize := 0x1000 } : State)], s.addr.toNat ≤ 0x1FFF ∧ s.chrSize ≤ s.addr.toNat) := by decide

/-- D16: four reads from 0x2000. -/
theorem witness_BufferedReadRun :
    ∀ k, k ≤ 3 → ((at_ 0x2000 0).addr + BitVec.ofNat 14 k * (at_ 0x2000 0).incrementStep).toNat < 0x3F00 ∧
      (at_ 0x2000 0).outOfRange ((at_ 0x2000 0).addr + BitVec.ofNat 14 k * (at_ 0x2000 0).incrementStep) = false := by decide

/-- D15: nametable address 0x2000, and a state that the second run of operations ends in. -/
theorem witness_ReadBufferIsNotCoherent :
    ∃ t u, (0x2000#14).toNat < 0x3F00 ∧ (at_ 0x2000 0).outOfRange 0x2000 = false ∧ (at_ 0x2000 0).addr = 0x2000#14 ∧
      execAll ([.rData] ++ expand (.setAddr 0x2000) ++ [.wData 0x66] ++ expand (.setAddr 0x2000) ++ [.rData]) (at_ 0x2000 0) =
        .next t ∧
      (at_ 0x2000 0).Canonical ∧ (at_ 0x2000 0).storePlace 0x2000 = some ((at_ 0x2000 0).place 0x2000) ∧
      execAll (expand (.setAddr 0x2000) ++ expand .prime ++ expand (.setAddr 0x2000) ++ [.rData]) t = .next u :=
  ⟨_, _, by decide, by decide, by decide, rfl, by decide, by decide, rfl⟩

theorem witness_QueriesShowTheStores :
    (∃ t, (at_ 0x2000 0).peekNametable (at_ 0x2000 0).addr = some 0 ∧ exec .rData (at_ 0x2000 0) = .next t) ∧
    (∃ t, (at_ 0x1FFF 0).peekPattern (at_ 0x1FFF 0).addr = some 0 ∧ exec .rData (at_ 0x1FFF 0) = .next t) ∧
    (∃ t, (at_ 0x3EFF 0).Canonical ∧ regionOf (at_ 0x3EFF 0).addr = .nametable ∧ exec (.wData 5) (at_ 0x3EFF 0) = .next t) ∧
    (∃ t, (at_ 0x3F00 0).Canonical ∧ regionOf (at_ 0x3F00 0).addr = .palette ∧ exec (.wData 5) (at_ 0x3F00 0) = .next t) :=
  ⟨⟨_, by decide, rfl⟩, ⟨_, by decide, rfl⟩, ⟨_, by decide, by decide, rfl⟩, ⟨_, by decide, by decide, rfl⟩⟩

/-- The ends of both ranges, and the last byte of a short pattern memory with the byte past it. -/
theorem witness_QueriesReturnTheBytes :
    (0x2000 ≤ (0x2000#14).toNat ∧ (0x2000#14).toNat ≤ 0x3EFF) ∧ (0x2000 ≤ (0x3EFF#14).toNat ∧ (0x3EFF#14).toNat ≤ 0x3EFF) ∧
    (0x0000#14).toNat ≤ 0x1FFF ∧ (0x1FFF#14).toNat ≤ 0x1FFF ∧
    ({ State.reset with chrSize := 0x1000 } : State).peekPattern 0x0FFF = some 0 ∧
    ({ State.reset with chrSize := 0x1000 } : State).peekPattern 0x1000 = none := by decide

/-! ### Witnesses: OAM and the whole machine -/

theorem witness_WriteOamDataStoresAndWraps :
    ({ State.reset with oamAddr := 0xFF } : State).Canonical ∧ Place.oam 0 ≠ .oam ({ State.reset with oamAddr := 0xFF } : State).oamAddr.toNat := by
  decide

/-- The first and the last byte of page 0x02, known; a place outside OAM. -/
theorem witness_OamDmaCopiesThePage :
    knownPage.reentrant = none ∧ ({ State.reset with supplier := knownPage } : State).Canonical ∧
    (0 < 256 ∧ Memory.lookup knownPage.known ((0x02#8).toNat * 256 + 0) = some 0xFF) ∧
    (255 < 256 ∧ Memory.lookup knownPage.known ((0x02#8).toNat * 256 + 255) = some 0x00) ∧
    ∀ i, i < 256 → Place.pal 0 ≠ .oam i := ⟨by decide, by decide, by decide, by decide, fun _ _ h => nomatch h⟩

theorem witness_ReentrantSupplierIsRefused :
    ({ State.reset with supplier := ⟨[], some 0xA00⟩ } : State).supplier.reentrant = some 0xA00#13 ∧
    decode 0xA00#13 = .ok .rStatus := by decide

/-- A re-entrant R STATUS (O9), and the re-entrant reserved word 0x800. -/
theorem witness_ReentrantRefusalLeavesSomeCopies :
    ([0xA00#13, 0x800#13].all fun w => decide ((withReentrant w).faultMark = none ∧ (withReentrant w).refusedMark = none ∧
      (withReentrant w).pending = ⟨0x1002, ⟨knownPage.known, some w⟩⟩ :: [])) = true ∧
    decode 0x1002#13 = .ok (.oamDma 0x02) ∧ (withReentrant 0xA00).Canonical := by decide

theorem witness_OnlyTheMatrixWrites :
    (∃ t, exec (.wData 5) (at_ 0x1FFF 0) = .next t) ∧ (∃ t, exec (.oamDma 2) State.reset = .next t) ∧
    (∃ t, exec .rStatus State.reset = .next t) := ⟨⟨_, rfl⟩, ⟨_, rfl⟩, ⟨_, rfl⟩⟩

/-- One place outside the stored bytes for each arm. -/
theorem witness_OnlyTheStoredByteChanges :
    (∃ t, exec (.wData 5) (at_ 0x3F00 0) = .next t ∧ (at_ 0x3F00 0).storePlace (at_ 0x3F00 0).addr ≠ some (.pal 16)) ∧
    (∃ t, exec (.wOamData 5) State.reset = .next t ∧ Place.oam 1 ≠ .oam State.reset.oamAddr.toNat) ∧
    (∃ t, exec (.oamDma 2) State.reset = .next t ∧ ∀ k, k < 256 → Place.nt 0 ≠ .oam k) ∧
    (∃ t, exec .rData State.reset = .next t) :=
  ⟨⟨_, rfl, by decide⟩, ⟨_, rfl, by decide⟩, ⟨_, rfl, fun _ _ h => nomatch h⟩, ⟨_, rfl⟩⟩

theorem witness_ControlIsReadThroughIncOnly :
    (∀ d, Instr.rData ≠ .wCtrl d) ∧ (0xFB#8).getLsbD 2 = State.reset.ctrl.getLsbD 2 ∧
    (0x7F#8).getLsbD 7 = State.reset.ctrl.getLsbD 7 := ⟨fun _ h => (nomatch h), by decide, by decide⟩

theorem witness_StopsHaveOneReason :
    (decode 0xF00#13 = .ok .rData ∧
      exec .rData { at_ 0x1000 0 with chrSize := 0x1000 } = .fault (.patternOutOfRange 0x1000)) ∧
    (decode 0x7AB#13 = .ok (.wData 0xAB) ∧
      exec (.wData 0xAB) { at_ 0x1000 0 with chrSize := 0x1000 } = .fault (.patternOutOfRange 0x1000)) ∧
    (decode 0x1002#13 = .ok (.oamDma 0x02) ∧
      exec (.oamDma 0x02) { State.reset with supplier := ⟨[], some 0xA00⟩ } = .refused (.reentrantAccess 0xA00)) :=
  ⟨⟨by decide, rfl⟩, ⟨by decide, rfl⟩, ⟨by decide, rfl⟩⟩

theorem witness_EveryStepKeepsTheInvariant : ∃ t, (withWord 0x7FF).Inv ∧ step (withWord 0x7FF) = .next t :=
  ⟨_, by decide, rfl⟩

theorem witness_EveryConstructionMeetsInv :
    construct (paramsOf [1]) = .next (State.constructed (paramsOf [1])) := rfl

/-- An empty pattern memory, and one of one byte. -/
theorem witness_ConstructionValues :
    (paramsOf []).chr.length = 0 ∧ (paramsOf [1]).chr.length ≠ 0 ∧ 2047 < 2048 ∧ 31 < 32 ∧ 255 < 256 ∧
    0 < (paramsOf [1]).chr.length := by decide

theorem witness_ParametersAreFixed : ∃ t, step (withWord 0xA00) = .next t := ⟨_, rfl⟩

end Sys2Proof.Machine.Tests
end

section
/-! SUPPORT. Proofs about the state elements: CTRL as the operations read it (R35), and the state construction leaves
(R56, R241). -/

namespace Sys2Proof.Machine

/-! ### What is read of CTRL -/

/-- `step()` reads CTRL through INC only (R142). -/
theorem State.setCtrl_incrementStep (s : State) (c : Byte) (h : c.getLsbD 2 = s.ctrl.getLsbD 2) :
    (s.setCtrl c).incrementStep = s.incrementStep := by
  have hinc : flagGet (s.setCtrl c).ctrl 2 = flagGet s.ctrl 2 := h
  simp only [State.incrementStep, hinc]

/-- The NMI request reads CTRL through NMI only (R235). -/
theorem State.setCtrl_nmiRequested (s : State) (c : Byte) (h : c.getLsbD 7 = s.ctrl.getLsbD 7) :
    (s.setCtrl c).nmiRequested = s.nmiRequested := by
  have hnmi : (s.setCtrl c).nmiEnabled = s.nmiEnabled := h
  have hvblank : (s.setCtrl c).vblank = s.vblank := rfl
  simp only [State.nmiRequested, hnmi, hvblank]

/-! ### The shared operations commute with replacing CTRL -/

@[simp] theorem State.setCtrl_readPlace (s : State) (c : Byte) (pl : Place) :
    (s.setCtrl c).readPlace pl = s.readPlace pl := State.readPlace_congr rfl rfl rfl rfl pl

theorem State.writePlace_setCtrl (s : State) (c : Byte) (pl : Place) (v : Byte) :
    (s.setCtrl c).writePlace pl v = (s.writePlace pl v).setCtrl c := by cases pl <;> rfl

theorem State.setCtrl_memRead (s : State) (c : Byte) (a : PpuAddr) : (s.setCtrl c).memRead a = s.memRead a := by
  have hplace : (s.setCtrl c).place a = s.place a := rfl
  have hrange : (s.setCtrl c).outOfRange a = s.outOfRange a := rfl
  simp only [State.memRead, hrange, hplace, State.setCtrl_readPlace]

theorem State.memWrite_setCtrl (s : State) (c : Byte) (a : PpuAddr) (v : Byte) :
    (s.setCtrl c).memWrite a v = (s.memWrite a v).map fun t => t.setCtrl c := by
  have hstore : (s.setCtrl c).storePlace a = s.storePlace a := rfl
  have hrange : (s.setCtrl c).outOfRange a = s.outOfRange a := rfl
  simp only [State.memWrite, hstore, hrange]
  cases s.storePlace a with
  | none => rfl
  | some pl =>
    cases s.outOfRange a with
    | true => rfl
    | false => exact congrArg Except.ok (s.writePlace_setCtrl c pl v)

/-- A store through the PPU space leaves CTRL (R76). -/
theorem State.memWrite_ctrl {s t : State} {a : PpuAddr} {v : Byte} (h : s.memWrite a v = .ok t) : t.ctrl = s.ctrl := by
  rcases s.memWrite_cases a v with ⟨-, e⟩ | ⟨-, -, e⟩ | ⟨-, -, e⟩ <;> rw [e] at h <;> cases h
  · rfl
  · exact s.writePlace_ctrl _ v

/-- The advance of ADDR that ends both data-port operations sees INC only. -/
theorem State.advance_setCtrl (s : State) (c : Byte) (h : c.getLsbD 2 = s.ctrl.getLsbD 2) :
    (s.setCtrl c).incrementAddr (s.setCtrl c).incrementStep = (s.incrementAddr s.incrementStep).setCtrl c := by
  rw [s.setCtrl_incrementStep c h]; rfl

theorem State.writeAddrLatch_setCtrl (s : State) (c b : Byte) :
    (s.setCtrl c).writeAddrLatch b = (s.writeAddrLatch b).setCtrl c := by
  simp only [State.writeAddrLatch, State.setCtrl_addrW]; cases s.addrW <;> rfl

theorem State.writeScrollLatch_setCtrl (s : State) (c b : Byte) :
    (s.setCtrl c).writeScrollLatch b = (s.writeScrollLatch b).setCtrl c := by
  simp only [State.writeScrollLatch, State.setCtrl_scrollW]; cases s.scrollW <;> rfl

theorem State.copyPage_setCtrl (s : State) (c p : Byte) : (s.setCtrl c).copyPage p = (s.copyPage p).setCtrl c := by
  have hbytes : (s.setCtrl c).pageByte p = s.pageByte p := State.pageByte_congr rfl rfl p
  unfold State.copyPage
  rw [hbytes]
  simp only [State.setCtrl]

/-! ### The operations that branch -/

theorem execWData_setCtrl (d : Byte) (s : State) (c : Byte) (h : c.getLsbD 2 = s.ctrl.getLsbD 2) :
    execWData d (s.setCtrl c) = mapNext (fun t => t.setCtrl c) (execWData d s) := by
  simp only [execWData, State.setCtrl_addr, State.memWrite_setCtrl]
  cases hw : s.memWrite s.addr d with
  | error k => rfl
  | ok t =>
    have ht : c.getLsbD 2 = t.ctrl.getLsbD 2 := by rw [State.memWrite_ctrl hw, h]
    exact congrArg Host.Outcome.next (t.advance_setCtrl c ht)

theorem execRData_setCtrl (s : State) (c : Byte) (h : c.getLsbD 2 = s.ctrl.getLsbD 2) :
    execRData (s.setCtrl c) = mapNext (fun t => t.setCtrl c) (execRData s) := by
  simp only [execRData, State.setCtrl_addr, State.setCtrl_memRead, State.setCtrl_incrementStep s c h]
  cases s.memRead s.addr with
  | error k => rfl
  | ok v => by_cases hpal : 0x3F00 ≤ s.addr.toNat <;> simp only [hpal, if_true, if_false] <;> rfl

theorem execOamDma_setCtrl (p : Byte) (s : State) (c : Byte) :
    execOamDma p (s.setCtrl c) = mapNext (fun t => t.setCtrl c) (execOamDma p s) := by
  simp only [execOamDma, State.setCtrl_supplier, State.copyPage_setCtrl]
  cases s.supplier.reentrant <;> rfl

theorem execEnvStat_setCtrl (f : Byte) (s : State) (c : Byte) :
    execEnvStat f (s.setCtrl c) = mapNext (fun t => t.setCtrl c) (execEnvStat f s) := by
  unfold execEnvStat; split <;> rfl

/-- R35: an operation other than W CTRL commutes with replacing CTRL by a byte of the same INC. -/
theorem exec_setCtrl (i : Instr) (s : State) (c : Byte) (hi : ∀ d, i ≠ .wCtrl d)
    (h : c.getLsbD 2 = s.ctrl.getLsbD 2) :
    exec i (s.setCtrl c) = mapNext (fun t => t.setCtrl c) (exec i s) := by
  cases i with
  | wCtrl d => exact absurd rfl (hi d)
  | wMask d => rfl
  | wStatus d => rfl
  | wOamAddr d => rfl
  | wOamData d => rfl
  | wScroll d => exact congrArg Host.Outcome.next (s.writeScrollLatch_setCtrl c d)
  | wAddr d => exact congrArg Host.Outcome.next (s.writeAddrLatch_setCtrl c d)
  | wData d => exact execWData_setCtrl d s c h
  | rStatus => rfl
  | rOamData => rfl
  | rData => exact execRData_setCtrl s c h
  | oamDma p => exact execOamDma_setCtrl p s c
  | envStat f => exact execEnvStat_setCtrl f s c

/-- Settles O53: each operation commutes with replacing CTRL, ADDR's advance being the one reader of CTRL and INC the
one bit it reads. -/
theorem controlIsReadThroughIncOnly : Obligations.ControlIsReadThroughIncOnly := fun s c =>
  ⟨fun i hi h => exec_setCtrl i s c hi h, s.setCtrl_nmiRequested c⟩

/-! ### The state construction leaves -/

theorem Memory.read_ofBytes_of_lt (l : List Byte) (i : Nat) (h : i < l.length) : (Memory.ofBytes l).read i = l[i] := by
  simp [Memory.read_ofBytes, h]

theorem Memory.read_ofBytes_toList {n : Nat} (v : Vector Byte n) (i : Nat) (h : i < n) :
    (Memory.ofBytes v.toList).read i = v[i] := by
  simp [Memory.read_ofBytes_of_lt, h]

/-- R241: an empty pattern memory is the one refusal of construction. -/
theorem construct_of_empty (p : Params) (h : p.chr.length = 0) : construct p = .refused .emptyPatternMemory := if_pos h

theorem construct_of_nonempty (p : Params) (h : p.chr.length ≠ 0) : construct p = .next (State.constructed p) := if_neg h

/-- Settles O58: the registers of `State.constructed` are those of the table of R56, and each of its stores reads the
bytes it was made of. -/
theorem constructionValues : Obligations.ConstructionValues := by
  unfold Obligations.ConstructionValues
  intro p
  refine ⟨construct_of_empty p, fun h => ⟨State.constructed p, construct_of_nonempty p h, rfl, rfl, rfl, rfl, rfl, rfl, rfl,
    rfl, rfl, rfl, rfl, rfl, rfl, rfl, rfl, ?nt, ?pal, ?oam, ?chr⟩⟩
  case nt => exact Memory.read_ofBytes_toList p.initNt
  case pal => exact Memory.read_ofBytes_toList p.initPal
  case oam => exact Memory.read_ofBytes_toList p.initOam
  case chr => exact Memory.read_ofBytes_of_lt p.chr

end Sys2Proof.Machine
end

section
/-! SUPPORT. Proofs about the PPU address space: the region decode (R74), the mirror router (R81 to R84), the access of
one byte (R75, R76), the palette (R77) and the faults of pattern memory (R79). -/

namespace Sys2Proof.Machine

/-! ### The place an address selects -/

theorem State.place_of_pattern (s : State) {a : PpuAddr} (h : a.toNat ≤ 0x1FFF) : s.place a = .chr a.toNat := by
  rw [State.place, (regionOf_pattern_iff a).2 h]

theorem State.place_of_nametable (s : State) {a : PpuAddr} (h : 0x2000 ≤ a.toNat ∧ a.toNat ≤ 0x3EFF) :
    s.place a = .nt (mirrorDecode s.mirrorMode a).toNat := by
  rw [State.place, (regionOf_nametable_iff a).2 h]

theorem State.place_of_palette (s : State) {a : PpuAddr} (h : 0x3F00 ≤ a.toNat) : s.place a = .pal (paletteIndex a) := by
  rw [State.place, (regionOf_palette_iff a).2 h]

/-- The three ranges of R74 leave no gap. -/
theorem ppuAddr_range_cases (a : PpuAddr) :
    a.toNat ≤ 0x1FFF ∨ (0x2000 ≤ a.toNat ∧ a.toNat ≤ 0x3EFF) ∨ 0x3F00 ≤ a.toNat := by omega

/-- Settles O31: the place of each region, and the cover of the address space by the three ranges. -/
theorem regionDecode : Obligations.RegionDecode := fun s a =>
  ⟨s.place_of_pattern, s.place_of_nametable, s.place_of_palette, ppuAddr_range_cases a⟩

/-- Only an address of the pattern range selects a byte of CHR, the one at its own index. -/
theorem State.place_eq_chr {s : State} {a : PpuAddr} {n : Nat} (h : s.place a = .chr n) :
    a.toNat ≤ 0x1FFF ∧ n = a.toNat := by
  rcases ppuAddr_range_cases a with hpat | hnt | hpal
  · rw [s.place_of_pattern hpat] at h
    cases h
    exact ⟨hpat, rfl⟩
  · rw [s.place_of_nametable hnt] at h; cases h
  · rw [s.place_of_palette hpal] at h; cases h

/-! ### The mirror router -/

/-- Clearing bit 12 leaves the offset within the quadrant. -/
theorem mirrorInner_eq (a : PpuAddr) : mirrorInner a = a.extractLsb' 0 10 := by
  have hmask : (0x2FFF#14).extractLsb' 0 10 = BitVec.allOnes 10 := by decide
  rw [mirrorInner, mirrorFold, BitVec.extractLsb'_and, hmask, BitVec.and_allOnes]

/-- Clearing bit 12 and subtracting 0x2000 leave the quadrant's two bits. -/
theorem mirrorQuadrant_eq (a : PpuAddr) : mirrorQuadrant a = a.extractLsb' 10 2 := by
  have hmask : (0x2FFF#14).extractLsb' 10 2 = BitVec.allOnes 2 := by decide
  have hfold : (mirrorFold a).extractLsb' 10 2 = a.extractLsb' 10 2 := by
    rw [mirrorFold, BitVec.extractLsb'_and, hmask, BitVec.and_allOnes]
  rw [← hfold]
  apply BitVec.eq_of_toNat_eq
  simp only [mirrorQuadrant, BitVec.toNat_setWidth, BitVec.toNat_ushiftRight, BitVec.toNat_sub, BitVec.extractLsb'_toNat,
    BitVec.reduceToNat, Nat.shiftRight_eq_div_pow]
  omega

theorem physicalTable_le_one (mode : MirrorMode) (q : BitVec 2) : physicalTable mode q ≤ 1 := by
  cases mode <;> revert q <;> decide

/-- `o + t * 0x400` does not wrap (R84). -/
theorem mirrorDecode_toNat (mode : MirrorMode) (a : PpuAddr) :
    (mirrorDecode mode a).toNat = a.toNat % 0x400 + 0x400 * physicalTable mode (a.extractLsb' 10 2) := by
  have ht := physicalTable_le_one mode (a.extractLsb' 10 2)
  simp only [mirrorDecode, mirrorInner_eq, mirrorQuadrant_eq, BitVec.toNat_add, BitVec.toNat_setWidth,
    BitVec.extractLsb'_toNat, BitVec.toNat_ofNat, Nat.shiftRight_zero]
  omega

/-- The table of R83. -/
theorem physicalTable_eq_get (q : Fin 4) :
    physicalTable .horizontal (BitVec.ofFin q) = [0, 0, 1, 1].get q ∧
    physicalTable .vertical (BitVec.ofFin q) = [0, 1, 0, 1].get q := by
  revert q; decide

/-- Settles O33: bits 11 and 10 of the address are its quadrant in either range, for the ranges differ in bit 12 only. -/
theorem quadrantsGoToPhysicalTables : Obligations.QuadrantsGoToPhysicalTables := by
  unfold Obligations.QuadrantsGoToPhysicalTables
  intro a o q ho ha
  have hinner : a.toNat % 0x400 = o := by omega
  have hquadrant : a.extractLsb' 10 2 = BitVec.ofFin q := by
    apply BitVec.eq_of_toNat_eq
    simp only [BitVec.extractLsb'_toNat, Nat.shiftRight_eq_div_pow, BitVec.toNat_ofFin]
    omega
  obtain ⟨hhor, hver⟩ := physicalTable_eq_get q
  rw [mirrorDecode_toNat, mirrorDecode_toNat, hinner, hquadrant, hhor, hver]
  exact ⟨rfl, rfl⟩

/-! ### The palette index -/

/-- 0x3F00 is a multiple of 32, so the palette index is the address's low five bits (R75, R77). -/
theorem paletteIndex_eq_lowBits {a : PpuAddr} (h : 0x3F00 ≤ a.toNat) : paletteIndex a = (a.extractLsb' 0 5).toNat := by
  simp only [paletteIndex, BitVec.extractLsb'_toNat, Nat.shiftRight_zero]
  omega

theorem State.place_of_palette_lowBits (s : State) {a : PpuAddr} (h : 0x3F00 ≤ a.toNat) :
    s.place a = .pal (a.extractLsb' 0 5).toNat := by
  rw [s.place_of_palette h, paletteIndex_eq_lowBits h]

/-- No palette entry aliases another: the low five bits are all that two addresses of one entry share (R77). -/
theorem State.place_eq_iff_of_palette (s : State) {a b : PpuAddr} (ha : 0x3F00 ≤ a.toNat) (hb : 0x3F00 ≤ b.toNat) :
    s.place a = s.place b ↔ a.extractLsb' 0 5 = b.extractLsb' 0 5 := by
  rw [s.place_of_palette_lowBits ha, s.place_of_palette_lowBits hb, Place.pal.injEq, BitVec.toNat_inj]

/-! ### The access of one byte -/

theorem State.memRead_of_outOfRange (s : State) {a : PpuAddr} (h : s.outOfRange a = true) :
    s.memRead a = .error (.patternOutOfRange a) := if_pos h

theorem State.memRead_of_inRange (s : State) {a : PpuAddr} (h : s.outOfRange a = false) :
    s.memRead a = .ok (s.readPlace (s.place a)) := by
  simp only [State.memRead, h, Bool.false_eq_true, if_false]

theorem State.storePlace_eq_none_iff (s : State) {a : PpuAddr} :
    s.storePlace a = none ↔ a.toNat ≤ 0x1FFF ∧ s.chrWritable = false := by
  rw [s.storePlace_eq]; split <;> simp [*]

/-- The write is disabled: pattern memory without CHR_WRITABLE (R78). -/
theorem State.memWrite_of_readOnly (s : State) {a : PpuAddr} (v : Byte) (h : a.toNat ≤ 0x1FFF ∧ s.chrWritable = false) :
    s.memWrite a v = .ok s := by
  simp only [State.memWrite, s.storePlace_eq_none_iff.2 h]

theorem State.memWrite_of_outOfRange (s : State) {a : PpuAddr} (v : Byte) (h : s.outOfRange a = true)
    (hw : s.chrWritable = true) : s.memWrite a v = .error (.patternOutOfRange a) := by
  have henabled : ¬(a.toNat ≤ 0x1FFF ∧ s.chrWritable = false) := by simp [hw]
  simp only [State.memWrite, s.storePlace_eq, if_neg henabled, if_pos h]

theorem State.memWrite_of_inRange (s : State) {a : PpuAddr} (v : Byte) (h : s.outOfRange a = false)
    (hw : ¬(a.toNat ≤ 0x1FFF ∧ s.chrWritable = false)) : s.memWrite a v = .ok (s.writePlace (s.place a) v) := by
  simp only [State.memWrite, s.storePlace_eq, if_neg hw, h, Bool.false_eq_true, if_false]

/-- Only the pattern range can be out of range. -/
theorem State.outOfRange_of_not_pattern (s : State) {a : PpuAddr} (h : ¬a.toNat ≤ 0x1FFF) : s.outOfRange a = false :=
  (s.outOfRange_false_iff a).2 fun hr => h hr.1

/-- Settles O35: one case per range, each read at the place the region decode gives. -/
theorem memReadByRegion : Obligations.MemReadByRegion := by
  unfold Obligations.MemReadByRegion
  intro s a
  rcases ppuAddr_range_cases a with hpat | hnt | hpal
  · rw [if_pos hpat]
    by_cases hin : a.toNat < s.chrSize
    · rw [if_pos hin, s.memRead_of_inRange ((s.outOfRange_false_iff a).2 (by omega)), s.place_of_pattern hpat]
      rfl
    · rw [if_neg hin, s.memRead_of_outOfRange ((s.outOfRange_iff a).2 (by omega))]
  · have hpat : ¬a.toNat ≤ 0x1FFF := by omega
    rw [if_neg hpat, if_pos hnt.2, s.memRead_of_inRange (s.outOfRange_of_not_pattern hpat), s.place_of_nametable hnt]
    rfl
  · have hpat : ¬a.toNat ≤ 0x1FFF := by omega
    rw [if_neg hpat, if_neg (by omega), s.memRead_of_inRange (s.outOfRange_of_not_pattern hpat),
      s.place_of_palette_lowBits hpal]
    rfl

/-- Settles O36: one case per range, the pattern range being split by CHR_WRITABLE and CHR_SIZE; outside it every write
stores. -/
theorem memWriteByRegion : Obligations.MemWriteByRegion := by
  unfold Obligations.MemWriteByRegion
  intro s a v
  rcases ppuAddr_range_cases a with hpat | hnt | hpal
  · rw [if_pos hpat]
    by_cases hw : s.chrWritable = true
    · rw [if_pos hw]
      by_cases hin : a.toNat < s.chrSize
      · rw [if_pos hin, s.memWrite_of_inRange v ((s.outOfRange_false_iff a).2 (by omega)) (by simp [hw]),
          s.place_of_pattern hpat]
      · rw [if_neg hin, s.memWrite_of_outOfRange v ((s.outOfRange_iff a).2 (by omega)) hw]
    · rw [if_neg hw, s.memWrite_of_readOnly v ⟨hpat, by simpa using hw⟩]
  · have hpat : ¬a.toNat ≤ 0x1FFF := by omega
    rw [if_neg hpat, if_pos hnt.2, s.memWrite_of_inRange v (s.outOfRange_of_not_pattern hpat) fun h => hpat h.1,
      s.place_of_nametable hnt]
  · have hpat : ¬a.toNat ≤ 0x1FFF := by omega
    rw [if_neg hpat, if_neg (by omega), s.memWrite_of_inRange v (s.outOfRange_of_not_pattern hpat) fun h => hpat h.1,
      s.place_of_palette_lowBits hpal]

/-! ### W DATA to the palette -/

/-- Outside pattern memory W DATA neither faults nor is disabled: it stores the byte and advances ADDR (R76, R190). -/
theorem execWData_of_not_pattern (d : Byte) (s : State) (h : ¬s.addr.toNat ≤ 0x1FFF) :
    execWData d s = .next ((s.writePlace (s.place s.addr) d).incrementAddr s.incrementStep) := by
  rcases execWData_cases d s with ⟨hdisabled, -⟩ | ⟨-, hout, -⟩ | ⟨-, -, e⟩
  · exact absurd (s.storePlace_eq_none_iff.1 hdisabled).1 h
  · exact absurd ((s.outOfRange_iff s.addr).1 hout).1 h
  · exact e

/-- Settles O38: a palette entry is known by its address's low five bits, and W DATA writes that one place. -/
theorem paletteEntriesAreDistinct : Obligations.PaletteEntriesAreDistinct := by
  unfold Obligations.PaletteEntriesAreDistinct
  rintro s a b d ha hb rfl
  have hdistinct := s.place_eq_iff_of_palette ha hb
  refine ⟨paletteIndex_eq_lowBits ha, s.place_of_palette_lowBits ha, hdistinct, fun hcan => ?_⟩
  refine ⟨_, execWData_of_not_pattern d s (by omega), ?stored, fun hne => ?kept⟩
  case stored => rw [State.incrementAddr_readPlace, s.readPlace_writePlace_same _ d hcan]
  case kept =>
    have hplace : s.place b ≠ s.place s.addr := fun e => hne (hdistinct.1 e.symm)
    rw [State.incrementAddr_readPlace, s.readPlace_writePlace_other _ _ d hplace]

/-! ### The faults of pattern memory -/

theorem execRData_eq_fault_iff (s : State) (k : Fault) :
    execRData s = .fault k ↔ s.outOfRange s.addr = true ∧ k = .patternOutOfRange s.addr := by
  rcases execRData_cases s with ⟨hr, e⟩ | ⟨hr, -, e⟩ | ⟨hr, -, e⟩
  · simp [e, hr, eq_comm]
  · simp [e, hr]
  · simp [e, hr]

theorem execWData_eq_fault_iff (d : Byte) (s : State) (k : Fault) :
    execWData d s = .fault k ↔
      s.chrWritable = true ∧ s.outOfRange s.addr = true ∧ k = .patternOutOfRange s.addr := by
  rcases execWData_cases d s with ⟨hst, e⟩ | ⟨hst, hr, e⟩ | ⟨hst, hr, e⟩
  · obtain ⟨-, hw⟩ := s.storePlace_eq_none_iff.1 hst
    simp [e, hw]
  · have hw : s.chrWritable = true := by
      by_contra hw
      have hnone := s.storePlace_eq_none_iff.2 ⟨((s.outOfRange_iff _).1 hr).1, by simpa using hw⟩
      rw [hst] at hnone; cases hnone
    simp [e, hr, hw, eq_comm]
  · simp [e, hr]

/-- Settles O39: both data-port operations fault by the one test `outOfRange`, W DATA only where it would store, and a
recorded fault sets its mark alone. -/
theorem patternRangeFaults : Obligations.PatternRangeFaults := by
  unfold Obligations.PatternRangeFaults
  intro s d k
  have hread := execRData_eq_fault_iff s k
  have hwrite := execWData_eq_fault_iff d s k
  refine ⟨?_, ?_, fun h => ?_, fun h => ?_, fun a n h => ?_⟩
  · exact hread.trans (by rw [s.outOfRange_iff, and_assoc])
  · exact hwrite.trans (by rw [s.outOfRange_iff, and_assoc])
  · obtain ⟨-, rfl⟩ := hread.1 h
    rw [h]; rfl
  · obtain ⟨-, -, rfl⟩ := hwrite.1 h
    rw [h]; rfl
  · obtain ⟨hpat, hn⟩ := State.place_eq_chr h
    exact ⟨hn, by omega⟩

end Sys2Proof.Machine
end

section
/-! SUPPORT. Proofs about the operation word: its fields (R111), and the DATA field that a read ignores (R116). -/

namespace Sys2Proof

/-! ### The fields of a word -/

/-- SPACE is the top bit of the word (R111). -/
theorem getLsbD_twelve_opWord (space rw : BitVec 1) (sel : BitVec 3) (d : Byte) :
    (opWord space rw sel d).getLsbD 12 = space.getLsbD 0 := by
  simp only [opWord, BitVec.getLsbD_append, Nat.reduceLT, Nat.reduceSub, if_false]

/-- The mask 0x1F00 keeps SPACE, RW and SEL and clears DATA (R111). -/
theorem opWord_and_clearData (space rw : BitVec 1) (sel : BitVec 3) (d : Byte) :
    opWord space rw sel d &&& 0x1F00#13 = opWord space rw sel 0 := by
  have hmask : 0x1F00#13 = BitVec.allOnes (1 + 1 + 3) ++ 0#8 := by decide
  rw [opWord, opWord, hmask, BitVec.and_append, BitVec.and_allOnes, BitVec.and_zero]
  rfl

/-! ### The row of a port word -/

/-- Every row of the table either leaves DATA out of its mask, or belongs to the space SPACE = 1 (R115). -/
theorem opcodeTable_clearsData_or_space (r : OpRow) (hr : r ∈ opcodeTable) :
    r.mask = 0x1F00#13 ∨ r.pattern.getLsbD 12 = true := by
  revert r
  decide

/-- A row outside the port space admits no port word. -/
theorem OpRow.admits_portWord_of_space {r : OpRow} (h : r.pattern.getLsbD 12 = true) (rw : BitVec 1) (sel : BitVec 3)
    (d : Byte) : r.admits (opWord 0 rw sel d) = false := by
  refine beq_false_of_ne fun e => ?_
  rw [← e, BitVec.getLsbD_and, getLsbD_twelve_opWord] at h
  simp at h

/-- The DATA field of a port word does not choose its row (R116). -/
theorem OpRow.admits_portWord {r : OpRow} (hr : r ∈ opcodeTable) (rw : BitVec 1) (sel : BitVec 3) (d : Byte) :
    r.admits (opWord 0 rw sel d) = r.admits (opWord 0 rw sel 0) := by
  rcases opcodeTable_clearsData_or_space r hr with hmask | hspace
  · simp only [OpRow.admits, hmask, opWord_and_clearData]
  · rw [admits_portWord_of_space hspace, admits_portWord_of_space hspace]

theorem find?_admits_portWord (rw : BitVec 1) (sel : BitVec 3) (d : Byte) :
    opcodeTable.find? (·.admits (opWord 0 rw sel d)) = opcodeTable.find? (·.admits (opWord 0 rw sel 0)) :=
  List.find?_congr fun _ hr => OpRow.admits_portWord hr rw sel d

/-- A port word decodes by the row of its word with DATA cleared. -/
theorem decode_portWord {rw : BitVec 1} {sel : BitVec 3} {r : OpRow}
    (h : opcodeTable.find? (·.admits (opWord 0 rw sel 0)) = some r) (d : Byte) :
    decode (opWord 0 rw sel d) = .ok (r.make (dataField (opWord 0 rw sel d))) := by
  simp only [decode, find?_admits_portWord, h]

/-! ### The read words -/

/-- Settles O4: a read word has the row of its canonical word, and that row's operation takes no operand. -/
theorem readWordsIgnoreData : Obligations.ReadWordsIgnoreData := by
  unfold Obligations.ReadWordsIgnoreData
  refine ⟨fun d => ⟨?status, ?oamData, ?data⟩, rfl, rfl, rfl⟩
  case status => exact decode_portWord (rw := 1) (sel := 2) rfl d
  case oamData => exact decode_portWord (rw := 1) (sel := 4) rfl d
  case data => exact decode_portWord (rw := 1) (sel := 7) rfl d

end Sys2Proof
end

section
/-! SUPPORT. Proofs about the flag registers: the BitFlagRegister operations (R131 to R134), W CTRL, W MASK, W STATUS
(R140, R141, R150), and the two operations on STATUS, R STATUS and ENVSTAT (R145, R151). -/

namespace Sys2Proof

/-! ### The word of an operation -/

/-- The word with DATA 0, with the operand or-ed in: the form of the rules of spec/40 (R111). -/
theorem opWord_eq_or_data (space rw : BitVec 1) (sel : BitVec 3) (d : Byte) :
    opWord space rw sel d = opWord space rw sel 0 ||| d.setWidth 13 := by
  have hdata : d.setWidth 13 = 0#(1 + 1 + 3) ++ d := BitVec.setWidth_eq_append (by decide)
  rw [hdata, opWord, opWord, BitVec.or_append, BitVec.or_zero, BitVec.ofNat_eq_ofNat, BitVec.zero_or]

/-- Only ENVSTAT's row has the fields of ENVSTAT's word, and that row tests the low five DATA bits too (R115, R123). -/
theorem opcodeTable_not_envStat_or_testsLowBits (r : OpRow) (hr : r ∈ opcodeTable) :
    (r.mask = 0x1F00#13 ∧ r.pattern ≠ opWord 1 0 1 0) ∨ (r.mask = 0x1F1F#13 ∧ r.pattern = opWord 1 0 1 0) := by
  revert r
  decide

theorem OpRow.admits_envStat_of_illegal {r : OpRow} (hr : r ∈ opcodeTable) {f : Byte} (h : ¬envOperandLegal f) :
    r.admits (opWord 1 0 1 f) = false := by
  refine beq_false_of_ne fun e => ?_
  rcases opcodeTable_not_envStat_or_testsLowBits r hr with ⟨hmask, hpattern⟩ | ⟨hmask, hpattern⟩
  · rw [hmask, opWord_and_clearData] at e
    exact hpattern e.symm
  · have hlow := congrArg (BitVec.extractLsb' 0 5) e
    have hones : (0x1F1F#13).extractLsb' 0 5 = BitVec.allOnes 5 := by decide
    have hdata : (opWord 1 0 1 f).extractLsb' 0 5 = f.extractLsb' 0 5 :=
      BitVec.extractLsb'_append_eq_of_add_le (by decide)
    rw [hmask, hpattern, BitVec.extractLsb'_and, hones, BitVec.and_allOnes, hdata] at hlow
    exact h hlow

/-- R123: ENVSTAT's word with a low operand bit set is reserved. -/
theorem decode_envStat_of_illegal {f : Byte} (h : ¬envOperandLegal f) :
    decode (opWord 1 0 1 f) = .error (.reservedEncoding (opWord 1 0 1 f)) := by
  have hnone : opcodeTable.find? (·.admits (opWord 1 0 1 f)) = none :=
    List.find?_eq_none.2 fun _ hr => Bool.eq_false_iff.1 (OpRow.admits_envStat_of_illegal hr h)
  simp only [decode, hnone]

end Sys2Proof

namespace Sys2Proof.Machine

/-! ### One bit of a flag register -/

/-- `set` writes the bit of its index alone (R132). -/
theorem getLsbD_flagSet (r : Byte) (i : Fin 8) (b : Bool) (k : Nat) :
    (flagSet r i b).getLsbD k = if k = i.val then b else r.getLsbD k := by
  have hbit : (1#8 <<< i.val).getLsbD k = decide (k = i.val) := by
    rw [← BitVec.twoPow_eq, BitVec.getLsbD_twoPow]
    simp [i.isLt, eq_comm]
  cases b with
  | true =>
    simp only [flagSet, if_true, BitVec.getLsbD_or, hbit]
    by_cases hki : k = i.val <;> simp [hki]
  | false =>
    simp only [flagSet, Bool.false_eq_true, if_false, BitVec.getLsbD_and, BitVec.getLsbD_not, hbit]
    by_cases hki : k = i.val
    · simp [hki]
    · simp only [hki, decide_false, Bool.not_false, Bool.and_true, if_false]
      exact Bool.and_eq_left_iff_imp.2 fun hr => decide_eq_true (BitVec.lt_of_getLsbD hr)

/-- Settles O13: `set` is known by each bit that `get` reads after it. -/
theorem flagRegisterContract : Obligations.FlagRegisterContract := by
  unfold Obligations.FlagRegisterContract
  intro r v i j b
  refine ⟨rfl, ?_, rfl⟩
  simp only [flagGet, getLsbD_flagSet, Fin.ext_iff]

/-! ### The named accessors -/

theorem State.nametableBase_toNat (s : State) : s.nametableBase.toNat = 0x2000 + s.ctrl.toNat % 4 * 0x400 := by
  simp only [State.nametableBase, BitVec.toNat_add, BitVec.toNat_mul, BitVec.toNat_setWidth, BitVec.extractLsb'_toNat,
    BitVec.toNat_ofNat, Nat.shiftRight_zero]
  omega

/-- The two pattern base addresses are one formula on one bit of CTRL. -/
theorem toNat_patternBase (b : Bool) : (if b then 0x1000#14 else 0x0000#14).toNat = b.toNat * 0x1000 := by cases b <;> rfl

/-- Settles O14: the flags are `get` by definition, and the three base addresses do not wrap. -/
theorem namedAccessors : Obligations.NamedAccessors := fun s =>
  ⟨rfl, rfl, rfl, rfl, rfl, rfl, rfl, s.nametableBase_toNat, toNat_patternBase _, toNat_patternBase _⟩

/-! ### W CTRL and W STATUS -/

/-- Settles O15: W CTRL replaces CTRL, of which the step reads bit 2 and the NMI request bit 7. -/
theorem writeControlStoresTheByte : Obligations.WriteControlStoresTheByte := by
  unfold Obligations.WriteControlStoresTheByte
  refine fun d s => ⟨opWord_eq_or_data 0 0 0 d, s.setCtrl d, rfl, rfl, rfl, fun hnmi hvblank => ?_⟩
  have henabled : (s.setCtrl d).nmiEnabled = true := hnmi
  have hrequest : (s.setCtrl d).vblank = true := hvblank
  rw [State.nmiRequested, henabled, hrequest, Bool.and_self]

/-- Settles O17: W STATUS has the word of its select, and answers the state it was given. -/
theorem writeStatusChangesNothing : Obligations.WriteStatusChangesNothing := fun d _ =>
  ⟨opWord_eq_or_data 0 0 2 d, rfl⟩

/-! ### The shared operations commute with replacing MASK -/

/-- The PPU-space access sees no part of MASK (R37). -/
theorem State.setMask_memRead (s : State) (m : Byte) (a : PpuAddr) : (s.setMask m).memRead a = s.memRead a := rfl

theorem State.writePlace_setMask (s : State) (m : Byte) (pl : Place) (v : Byte) :
    (s.setMask m).writePlace pl v = (s.writePlace pl v).setMask m := by cases pl <;> rfl

theorem State.memWrite_setMask (s : State) (m : Byte) (a : PpuAddr) (v : Byte) :
    (s.setMask m).memWrite a v = (s.memWrite a v).map fun t => t.setMask m := by
  have hstore : (s.setMask m).storePlace a = s.storePlace a := rfl
  have hrange : (s.setMask m).outOfRange a = s.outOfRange a := rfl
  rcases s.memWrite_cases a v with ⟨hpl, e⟩ | ⟨hpl, hout, e⟩ | ⟨hpl, hout, e⟩ <;> rw [e, State.memWrite, hstore, hpl]
  · rfl
  · simp only [hrange, hout, if_true, Except.map]
  · simp only [hrange, hout, Bool.false_eq_true, if_false, Except.map, s.writePlace_setMask]

theorem State.writeAddrLatch_setMask (s : State) (m b : Byte) :
    (s.setMask m).writeAddrLatch b = (s.writeAddrLatch b).setMask m := by
  simp only [State.writeAddrLatch, State.setMask_addrW]; cases s.addrW <;> rfl

theorem State.writeScrollLatch_setMask (s : State) (m b : Byte) :
    (s.setMask m).writeScrollLatch b = (s.writeScrollLatch b).setMask m := by
  simp only [State.writeScrollLatch, State.setMask_scrollW]; cases s.scrollW <;> rfl

theorem State.copyPage_setMask (s : State) (m p : Byte) : (s.setMask m).copyPage p = (s.copyPage p).setMask m := by
  have hbytes : (s.setMask m).pageByte p = s.pageByte p := State.pageByte_congr rfl rfl p
  rw [State.copyPage, hbytes]
  simp only [State.copyPage, State.setMask]

/-! ### No operation reads MASK -/

theorem execWData_setMask (d : Byte) (s : State) (m : Byte) :
    execWData d (s.setMask m) = mapNext (fun t => t.setMask m) (execWData d s) := by
  simp only [execWData, State.setMask_addr, State.memWrite_setMask]
  cases s.memWrite s.addr d <;> rfl

theorem execRData_setMask (s : State) (m : Byte) :
    execRData (s.setMask m) = mapNext (fun t => t.setMask m) (execRData s) := by
  simp only [execRData, State.setMask_addr, State.setMask_memRead]
  cases s.memRead s.addr with
  | error k => rfl
  | ok v => by_cases hpal : 0x3F00 ≤ s.addr.toNat <;> simp only [hpal, if_true, if_false] <;> rfl

theorem execOamDma_setMask (p : Byte) (s : State) (m : Byte) :
    execOamDma p (s.setMask m) = mapNext (fun t => t.setMask m) (execOamDma p s) := by
  simp only [execOamDma, State.setMask_supplier, State.copyPage_setMask]
  cases s.supplier.reentrant <;> rfl

theorem execEnvStat_setMask (f : Byte) (s : State) (m : Byte) :
    execEnvStat f (s.setMask m) = mapNext (fun t => t.setMask m) (execEnvStat f s) := by
  unfold execEnvStat; split <;> rfl

/-- R37: an operation other than W MASK commutes with replacing MASK. -/
theorem exec_setMask (i : Instr) (s : State) (m : Byte) (hi : ∀ d, i ≠ .wMask d) :
    exec i (s.setMask m) = mapNext (fun t => t.setMask m) (exec i s) := by
  cases i with
  | wMask d => exact absurd rfl (hi d)
  | wCtrl d => rfl
  | wStatus d => rfl
  | wOamAddr d => rfl
  | wOamData d => rfl
  | wScroll d => exact congrArg Host.Outcome.next (s.writeScrollLatch_setMask m d)
  | wAddr d => exact congrArg Host.Outcome.next (s.writeAddrLatch_setMask m d)
  | wData d => exact execWData_setMask d s m
  | rStatus => rfl
  | rOamData => rfl
  | rData => exact execRData_setMask s m
  | oamDma p => exact execOamDma_setMask p s m
  | envStat f => exact execEnvStat_setMask f s m

/-- Settles O16: W MASK replaces MASK, and every other operation commutes with replacing it. -/
theorem writeMaskStoresTheByte : Obligations.WriteMaskStoresTheByte :=
  ⟨fun d s => ⟨opWord_eq_or_data 0 0 1 d, s.setMask d, rfl, rfl, rfl⟩, exec_setMask⟩

/-! ### R STATUS -/

/-- The state R STATUS leaves: the snapshot as result, then VBLANK cleared and both toggles forced (R145). -/
theorem exec_rStatus (s : State) : exec .rStatus s = .next (s.clearVblank.resetToggles.returns s.status) := rfl

theorem State.clearVblank_getLsbD (s : State) (k : Nat) :
    s.clearVblank.status.getLsbD k = if k = 7 then false else s.status.getLsbD k := getLsbD_flagSet s.status 7 false k

theorem flagSet_seven_false (r : Byte) : flagSet r 7 false = r &&& 0x7F#8 := rfl

/-- Settles O18: the result is the STATUS before `clearVblank`, so bit 7 shows the clear only in a second read. -/
theorem readStatusSnapshotThenSideEffects : Obligations.ReadStatusSnapshotThenSideEffects := by
  unfold Obligations.ReadStatusSnapshotThenSideEffects
  refine ⟨fun x => ?word, fun s => ⟨_, _, exec_rStatus s, exec_rStatus _, rfl, ?vblank, fun k hk => ?kept, rfl, rfl, rfl,
    congrArg some (flagSet_seven_false s.status), fun hinv v hv => ?low⟩⟩
  case word =>
    have hword : 0xA00#13 ||| x.setWidth 13 = opWord 0 1 2 x := (opWord_eq_or_data 0 1 2 x).symm
    rw [hword]
    exact decode_portWord (rw := 1) (sel := 2) rfl x
  case vblank => exact s.clearVblank_getLsbD 7
  case kept => exact (s.clearVblank_getLsbD k).trans (if_neg (by omega))
  case low =>
    obtain ⟨hlow, -⟩ := hinv
    cases hv
    exact hlow

/-! ### ENVSTAT -/

/-- The fields of ENVSTAT's operand in STATUS, the low bits being kept (R114, R151). -/
theorem State.setStatusFlags_getLsbD (s : State) (v h o : Bool) (k : Nat) :
    (s.setStatusFlags v h o).status.getLsbD k =
      if k = 5 then o else if k = 6 then h else if k = 7 then v else s.status.getLsbD k := by
  simp only [State.setStatusFlags_status, getLsbD_flagSet, Fin.isValue, Fin.coe_ofNat_eq_mod, Nat.reduceMod]

/-- Settles O19: a legal operand sets the three flags; an illegal one is refused as its own word, which is reserved. -/
theorem envStatSetsTheFlags : Obligations.EnvStatSetsTheFlags := by
  unfold Obligations.EnvStatSetsTheFlags
  intro f s
  have hword : opWord 1 0 1 f = 0x1100#13 ||| f.setWidth 13 := opWord_eq_or_data 1 0 1 f
  rw [← hword]
  rcases execEnvStat_cases f s with ⟨hlegal, e⟩ | ⟨hillegal, e⟩
  · have hbit := s.setStatusFlags_getLsbD (envVblank f) (envSprite0Hit f) (envSpriteOverflow f)
    refine ⟨rfl, rfl, fun _ => ⟨_, e, hbit 7, hbit 6, hbit 5, fun k hk => ?low, rfl⟩, absurd hlegal⟩
    case low => rw [hbit k, if_neg (by omega), if_neg (by omega), if_neg (by omega)]
  · exact ⟨rfl, rfl, fun hlegal => absurd hlegal hillegal, fun _ => ⟨e, decode_envStat_of_illegal hillegal⟩⟩

end Sys2Proof.Machine
end

section
/-! SUPPORT. Proofs about the latch ports: the slots of the two latches and their primitives (R160 to R167), the scroll
bytes that nothing reads (R172), and the toggles under every operation (R169). -/

namespace Sys2Proof.Machine

/-! ### The slots of an address -/

/-- Masking keeps the low 14 bits (R162). -/
theorem maskAddr_eq_setWidth (v : BitVec 16) : maskAddr v = v.setWidth 14 := by
  have hmask : (0x3FFF#16).setWidth 14 = BitVec.allOnes 14 := by decide
  rw [maskAddr, BitVec.setWidth_and, hmask, BitVec.and_allOnes]

theorem maskAddr_toNat (v : BitVec 16) : (maskAddr v).toNat = v.toNat % 0x4000 := by
  rw [maskAddr_eq_setWidth, BitVec.toNat_setWidth]

theorem pair_eq_append (hi lo : Byte) : pair hi lo = hi ++ lo := by
  rw [pair, ← BitVec.setWidth_append_eq_shiftLeft_setWidth_or, BitVec.setWidth_eq]

theorem pair_toNat (hi lo : Byte) : (pair hi lo).toNat = hi.toNat * 256 + lo.toNat := by
  rw [pair_eq_append, BitVec.toNat_append, ← Nat.shiftLeft_add_eq_or_of_lt lo.isLt, Nat.shiftLeft_eq]

/-- An address is its two slots side by side (R42). -/
theorem addrHigh_append_addrLow (a : PpuAddr) : addrHigh a ++ addrLow a = a :=
  BitVec.extractLsb'_append_extractLsb' (w := 6) (len := 8)

/-- The high write keeps six bits of the byte, and the low slot (R170). -/
theorem withHighByte_eq_append (a : PpuAddr) (d : Byte) : withHighByte a d = d.extractLsb' 0 6 ++ addrLow a :=
  calc
    withHighByte a d = (d ++ addrLow a).setWidth (6 + 8) := by rw [withHighByte, maskAddr_eq_setWidth, pair_eq_append]
    _ = d.setWidth 6 ++ (addrLow a).setWidth 8 := BitVec.setWidth_append_of_eq rfl
    _ = d.extractLsb' 0 6 ++ addrLow a := by rw [BitVec.setWidth_eq, BitVec.setWidth_eq_extractLsb' (by decide)]

/-- The low write keeps the high slot, and the whole byte (R170). -/
theorem withLowByte_eq_append (a : PpuAddr) (d : Byte) : withLowByte a d = addrHigh a ++ d := by
  have hmask : 0x3F00#14 = BitVec.allOnes 6 ++ 0#8 := by decide
  have hdata : d.setWidth 14 = 0#6 ++ d := BitVec.setWidth_eq_append (by decide)
  calc
    withLowByte a d = (addrHigh a ++ addrLow a) &&& (BitVec.allOnes 6 ++ 0#8) ||| (0#6 ++ d) := by
      rw [addrHigh_append_addrLow, withLowByte, hmask, hdata]
    _ = addrHigh a ++ d := by
      rw [BitVec.and_append, BitVec.or_append, BitVec.and_allOnes, BitVec.and_zero, BitVec.or_zero, BitVec.zero_or]

/-! ### W ADDR and W SCROLL by toggle -/

theorem State.writeAddrLatch_of_expectHigh {s : State} (h : s.addrW = .expectHigh) (d : Byte) :
    s.writeAddrLatch d = { s with addr := d.extractLsb' 0 6 ++ addrLow s.addr, addrW := .expectLow } := by
  simp only [State.writeAddrLatch, h, Toggle.flip_expectHigh, withHighByte_eq_append]

theorem State.writeAddrLatch_of_expectLow {s : State} (h : s.addrW = .expectLow) (d : Byte) :
    s.writeAddrLatch d = { s with addr := addrHigh s.addr ++ d, addrW := .expectHigh } := by
  simp only [State.writeAddrLatch, h, Toggle.flip_expectLow, withLowByte_eq_append]

theorem State.writeAddrLatch_frame (s : State) (d : Byte) :
    s.writeAddrLatch d = { s with addr := (s.writeAddrLatch d).addr, addrW := (s.writeAddrLatch d).addrW } := by
  unfold State.writeAddrLatch; split <;> rfl

theorem State.writeScrollLatch_of_expectHigh {s : State} (h : s.scrollW = .expectHigh) (d : Byte) :
    s.writeScrollLatch d = { s with scroll0 := d, scrollW := .expectLow } := by
  simp only [State.writeScrollLatch, h, Toggle.flip_expectHigh]

theorem State.writeScrollLatch_of_expectLow {s : State} (h : s.scrollW = .expectLow) (d : Byte) :
    s.writeScrollLatch d = { s with scroll1 := d, scrollW := .expectHigh } := by
  simp only [State.writeScrollLatch, h, Toggle.flip_expectLow]

/-- Settles O21: the address after W ADDR is the byte and the kept slot side by side, the high write leaving out the
byte's top two bits. -/
theorem writeAddressFillsASlot : Obligations.WriteAddressFillsASlot := by
  unfold Obligations.WriteAddressFillsASlot
  intro d s
  refine ⟨opWord_eq_or_data 0 0 6 d, s.writeAddrLatch d, rfl, s.writeAddrLatch_frame d, fun h => ?high, fun h => ?low⟩
  case high =>
    rw [State.writeAddrLatch_of_expectHigh h]
    exact ⟨BitVec.extractLsb'_append_eq_left, BitVec.extractLsb'_append_eq_right, rfl⟩
  case low =>
    rw [State.writeAddrLatch_of_expectLow h]
    exact ⟨BitVec.extractLsb'_append_eq_left, BitVec.extractLsb'_append_eq_right, rfl⟩

/-! ### No operation reads the scroll bytes -/

/-- Both scroll bytes replaced: the change that R172 says nothing but W SCROLL sees. -/
def State.setScroll (s : State) (a b : Byte) : State := { s with scroll0 := a, scroll1 := b }

theorem State.writePlace_setScroll (s : State) (a b : Byte) (pl : Place) (v : Byte) :
    (s.setScroll a b).writePlace pl v = (s.writePlace pl v).setScroll a b := by cases pl <;> rfl

theorem State.memRead_setScroll (s : State) (a b : Byte) (p : PpuAddr) :
    (s.setScroll a b).memRead p = s.memRead p := rfl

theorem State.memWrite_setScroll (s : State) (a b : Byte) (p : PpuAddr) (v : Byte) :
    (s.setScroll a b).memWrite p v = (s.memWrite p v).map fun t => t.setScroll a b := by
  have hstore : (s.setScroll a b).storePlace p = s.storePlace p := rfl
  have hrange : (s.setScroll a b).outOfRange p = s.outOfRange p := rfl
  simp only [State.memWrite, hstore, hrange, State.writePlace_setScroll]
  cases s.storePlace p with
  | none => rfl
  | some pl => cases s.outOfRange p <;> rfl

theorem State.writeAddrLatch_setScroll (s : State) (a b d : Byte) :
    (s.setScroll a b).writeAddrLatch d = (s.writeAddrLatch d).setScroll a b := by
  have htoggle : (s.setScroll a b).addrW = s.addrW := rfl
  simp only [State.writeAddrLatch, htoggle]
  cases s.addrW <;> rfl

theorem State.copyPage_setScroll (s : State) (a b p : Byte) :
    (s.setScroll a b).copyPage p = (s.copyPage p).setScroll a b := by
  have hbytes : (s.setScroll a b).pageByte p = s.pageByte p := State.pageByte_congr rfl rfl p
  rw [State.copyPage, hbytes]
  simp only [State.copyPage, State.setScroll]

theorem execWData_setScroll (d : Byte) (s : State) (a b : Byte) :
    execWData d (s.setScroll a b) = mapNext (fun t => t.setScroll a b) (execWData d s) := by
  have haddr : (s.setScroll a b).addr = s.addr := rfl
  simp only [execWData, haddr, State.memWrite_setScroll]
  cases s.memWrite s.addr d <;> rfl

theorem execRData_setScroll (s : State) (a b : Byte) :
    execRData (s.setScroll a b) = mapNext (fun t => t.setScroll a b) (execRData s) := by
  have haddr : (s.setScroll a b).addr = s.addr := rfl
  simp only [execRData, haddr, State.memRead_setScroll]
  cases s.memRead s.addr with
  | error k => rfl
  | ok v => by_cases hpal : 0x3F00 ≤ s.addr.toNat <;> simp only [hpal, if_true, if_false] <;> rfl

theorem execOamDma_setScroll (p : Byte) (s : State) (a b : Byte) :
    execOamDma p (s.setScroll a b) = mapNext (fun t => t.setScroll a b) (execOamDma p s) := by
  have hsupplier : (s.setScroll a b).supplier = s.supplier := rfl
  simp only [execOamDma, hsupplier, State.copyPage_setScroll]
  cases s.supplier.reentrant <;> rfl

theorem execEnvStat_setScroll (f : Byte) (s : State) (a b : Byte) :
    execEnvStat f (s.setScroll a b) = mapNext (fun t => t.setScroll a b) (execEnvStat f s) := by
  unfold execEnvStat; split <;> rfl

/-- R172: an operation other than W SCROLL commutes with replacing the scroll bytes. -/
theorem exec_setScroll (i : Instr) (s : State) (a b : Byte) (hi : ∀ d, i ≠ .wScroll d) :
    exec i (s.setScroll a b) = mapNext (fun t => t.setScroll a b) (exec i s) := by
  cases i with
  | wScroll d => exact absurd rfl (hi d)
  | wAddr d => exact congrArg Host.Outcome.next (s.writeAddrLatch_setScroll a b d)
  | wData d => exact execWData_setScroll d s a b
  | rData => exact execRData_setScroll s a b
  | oamDma p => exact execOamDma_setScroll p s a b
  | envStat f => exact execEnvStat_setScroll f s a b
  | wCtrl | wMask | wStatus | wOamAddr | wOamData | rStatus | rOamData => rfl

/-- Settles O22: W SCROLL fills the slot of its toggle, and every other operation commutes with replacing both slots. -/
theorem writeScrollFillsASlot : Obligations.WriteScrollFillsASlot :=
  ⟨fun d _ => ⟨opWord_eq_or_data 0 0 5 d,
    fun h => congrArg Host.Outcome.next (State.writeScrollLatch_of_expectHigh h d),
    fun h => congrArg Host.Outcome.next (State.writeScrollLatch_of_expectLow h d)⟩, exec_setScroll⟩

/-! ### The toggles under every operation -/

theorem execWData_toggles {d : Byte} {s t : State} (h : execWData d s = .next t) :
    t.addrW = s.addrW ∧ t.scrollW = s.scrollW := by
  rcases execWData_cases d s with ⟨-, e⟩ | ⟨-, -, e⟩ | ⟨-, -, e⟩ <;> rw [e] at h <;> cases h
  · exact ⟨rfl, rfl⟩
  · exact ⟨s.writePlace_addrW _ d, s.writePlace_scrollW _ d⟩

theorem execRData_toggles {s t : State} (h : execRData s = .next t) :
    t.addrW = s.addrW ∧ t.scrollW = s.scrollW := by
  rcases execRData_cases s with ⟨-, e⟩ | ⟨-, -, e⟩ | ⟨-, -, e⟩ <;> rw [e] at h <;> cases h <;> exact ⟨rfl, rfl⟩

theorem execOamDma_toggles {p : Byte} {s t : State} (h : execOamDma p s = .next t) :
    t.addrW = s.addrW ∧ t.scrollW = s.scrollW := by
  rcases execOamDma_cases p s with ⟨-, e⟩ | ⟨w, -, e⟩ <;> rw [e] at h <;> cases h
  exact ⟨s.copyPage_addrW p, s.copyPage_scrollW p⟩

theorem execEnvStat_toggles {f : Byte} {s t : State} (h : execEnvStat f s = .next t) :
    t.addrW = s.addrW ∧ t.scrollW = s.scrollW := by
  rcases execEnvStat_cases f s with ⟨-, e⟩ | ⟨-, e⟩ <;> rw [e] at h <;> cases h
  exact ⟨rfl, rfl⟩

/-- Construction starts both toggles at EXPECT_HIGH (R56, R169). -/
theorem construct_toggles {p : Params} {t : State} (h : construct p = .next t) :
    t.addrW = .expectHigh ∧ t.scrollW = .expectHigh := by
  unfold construct at h
  split at h <;> cases h
  exact ⟨rfl, rfl⟩

theorem Toggle.flip_eq_ite (w : Toggle) : w.flip = if w = .expectHigh then .expectLow else .expectHigh := by
  cases w <;> rfl

/-- Settles O23: W ADDR and W SCROLL flip their own toggle, R STATUS forces both, and each other operation that answers
a next state leaves both. -/
theorem toggleStateMachine : Obligations.ToggleStateMachine := by
  unfold Obligations.ToggleStateMachine
  refine ⟨fun p t => construct_toggles, fun i s t h => ?_⟩
  cases i with
  | wAddr d =>
    cases h
    exact ⟨(s.writeAddrLatch_addrW d).trans s.addrW.flip_eq_ite, s.writeAddrLatch_scrollW d⟩
  | wScroll d =>
    cases h
    exact ⟨s.writeScrollLatch_addrW d, (s.writeScrollLatch_scrollW d).trans s.scrollW.flip_eq_ite⟩
  | wData d => exact execWData_toggles h
  | rData => exact execRData_toggles h
  | oamDma p => exact execOamDma_toggles h
  | envStat f => exact execEnvStat_toggles h
  | wCtrl | wMask | wStatus | wOamAddr | wOamData | rStatus | rOamData => cases h; exact ⟨rfl, rfl⟩

/-! ### The primitives of the latches -/

/-- Settles O25: addition of 14-bit words loses the carry out of bit 13. -/
theorem addressIncrementWraps : Obligations.AddressIncrementWraps := fun s k _ => ⟨BitVec.toNat_add s.addr k, rfl⟩

theorem State.addrGet16_toNat (s : State) : s.addrGet16.toNat = s.addr.toNat :=
  BitVec.toNat_setWidth_of_le (by decide)

/-- Settles O30: the primitives by the masks and slots above; the last part is the toggle state machine, read at
EXPECT_LOW. -/
theorem latchPrimitives : Obligations.LatchPrimitives := by
  unfold Obligations.LatchPrimitives
  refine ⟨fun s => ⟨rfl, s.addrGet16_toNat, ?range, pair_toNat s.scroll0 s.scroll1⟩, fun s v => ⟨maskAddr_toNat v, rfl⟩,
    fun i s t h hread => ?toggles⟩
  case range => rw [s.addrGet16_toNat]; omega
  case toggles =>
    obtain ⟨-, hstep⟩ := toggleStateMachine
    obtain ⟨haddr, hscroll⟩ := hstep i s t h
    cases i with
    | rStatus => exact absurd rfl hread
    | wAddr d => exact ⟨fun _ => .inr ⟨d, rfl⟩, fun hlow => .inl (hscroll.trans hlow)⟩
    | wScroll d => exact ⟨fun hlow => .inl (haddr.trans hlow), fun _ => .inr ⟨d, rfl⟩⟩
    | _ => exact ⟨fun hlow => .inl (haddr.trans hlow), fun hlow => .inl (hscroll.trans hlow)⟩

end Sys2Proof.Machine
end

section
/-! SUPPORT. Proofs about the data port: what W DATA and R DATA answer in each range of ADDR (R190 to R193). -/

namespace Sys2Proof.Machine

/-! ### The advance of ADDR -/

/-- The advance that ends a data-port operation, INC choosing the step (R142, R191). -/
theorem State.incrementAddr_step (s : State) :
    s.incrementAddr s.incrementStep = { s with addr := s.addr + (if s.ctrl.getLsbD 2 then 32#14 else 1#14) } := rfl

/-- A store moves neither ADDR nor CTRL, so the advance after it is the one the state before it gives. -/
theorem State.writePlace_incrementAddr_step (s : State) (pl : Place) (v : Byte) :
    (s.writePlace pl v).incrementAddr s.incrementStep =
      { s.writePlace pl v with addr := s.addr + (if s.ctrl.getLsbD 2 then 32#14 else 1#14) } := by
  cases pl <;> rfl

/-! ### W DATA by range -/

/-- Without CHR_WRITABLE W DATA to pattern memory only advances ADDR, at or past CHR_SIZE too (R78). -/
theorem execWData_of_readOnly (d : Byte) {s : State} (h : s.addr.toNat ≤ 0x1FFF ∧ s.chrWritable = false) :
    execWData d s = .next (s.incrementAddr s.incrementStep) := by
  simp only [execWData, s.memWrite_of_readOnly d h]

theorem execWData_of_inRange (d : Byte) {s : State} (h : s.outOfRange s.addr = false)
    (hw : ¬(s.addr.toNat ≤ 0x1FFF ∧ s.chrWritable = false)) :
    execWData d s = .next ((s.writePlace (s.place s.addr) d).incrementAddr s.incrementStep) := by
  simp only [execWData, s.memWrite_of_inRange d h hw, State.incrementStep, State.writePlace_ctrl]

/-- Settles O40: a disabled write only advances ADDR; an enabled one outside the faulting range is in range, and stores
before the advance; in the faulting range the answer is the fault of R79. -/
theorem writeDataStoresThenAdvances : Obligations.WriteDataStoresThenAdvances := by
  unfold Obligations.WriteDataStoresThenAdvances
  intro d s
  refine ⟨opWord_eq_or_data 0 0 7 d, fun hok => ⟨fun hro => ?readOnly, fun hw => ?stored⟩, fun hfault => ?fault⟩
  case readOnly => exact (execWData_of_readOnly d hro).trans (congrArg Host.Outcome.next s.incrementAddr_step)
  case stored =>
    have hin : s.outOfRange s.addr = false :=
      (s.outOfRange_false_iff s.addr).2 fun hr => hok ⟨hr.1, by simpa [hr.1] using hw, hr.2⟩
    exact (execWData_of_inRange d hin hw).trans (congrArg Host.Outcome.next (s.writePlace_incrementAddr_step _ d))
  case fault =>
    obtain ⟨hpat, hwritable, hsize⟩ := hfault
    obtain ⟨-, hiff, -, hrecord, -⟩ := patternRangeFaults s d (.patternOutOfRange s.addr)
    have hexec := hiff.2 ⟨hwritable, hpat, hsize, rfl⟩
    exact ⟨hexec, hrecord hexec⟩

/-! ### R DATA by range -/

/-- From 0x3F00 the read bypasses RDBUF (R193). -/
theorem execRData_of_palette {s : State} (h : 0x3F00 ≤ s.addr.toNat) :
    execRData s = .next ((s.incrementAddr s.incrementStep).returns (s.pal.read (s.addr.extractLsb' 0 5).toNat)) := by
  have hin : s.outOfRange s.addr = false := s.outOfRange_of_not_pattern (by omega)
  simp only [execRData, s.memRead_of_inRange hin, s.place_of_palette_lowBits h, State.readPlace, if_pos h]

/-- Below 0x3F00 the read answers the old RDBUF and refills it from the address before the increment (R193). -/
theorem execRData_of_buffered {s : State} (h : s.addr.toNat < 0x3F00) (hin : s.outOfRange s.addr = false) :
    execRData s =
      .next (((s.setRdbuf (s.readPlace (s.place s.addr))).incrementAddr s.incrementStep).returns s.rdbuf) := by
  simp only [execRData, s.memRead_of_inRange hin, if_neg (Nat.not_le.2 h)]

/-- Settles O41: the three ranges of the read; each next state is the result and the advance over the state before, with
RDBUF refilled below the palette. -/
theorem readDataBuffersBelowThePalette : Obligations.ReadDataBuffersBelowThePalette := by
  unfold Obligations.ReadDataBuffersBelowThePalette
  refine ⟨fun x => ?word, fun s => ⟨fun hpal => ?palette, fun hbelow hin => ?buffered, fun hfault => ?fault⟩⟩
  case word =>
    have hword : 0xF00#13 ||| x.setWidth 13 = opWord 0 1 7 x := (opWord_eq_or_data 0 1 7 x).symm
    obtain ⟨hreads, -⟩ := readWordsIgnoreData
    obtain ⟨-, -, hdata⟩ := hreads x
    rw [hword, hdata]
  case palette => exact execRData_of_palette hpal
  case buffered => exact execRData_of_buffered hbelow ((s.outOfRange_false_iff s.addr).2 hin)
  case fault =>
    obtain ⟨hpat, hsize⟩ := hfault
    obtain ⟨hiff, -, hrecord, -⟩ := patternRangeFaults s 0 (.patternOutOfRange s.addr)
    have hexec := hiff.2 ⟨hpat, hsize, rfl⟩
    exact ⟨hexec, hrecord hexec⟩

end Sys2Proof.Machine
end

section
/-! SUPPORT. Proofs about the OAM ports and the OAM DMA engine: the pointer and its wrap (R210 to R212), a run of writes
through the pointer (R211), the page copy (R213, R214) and its refusal (R217). -/

namespace Sys2Proof.Machine

/-! ### A run of operations that completes -/

/-- After a run that completes, the operations that follow start in the state it left (R94). -/
theorem execAll_append_of_next {is : List Instr} {s t : State} (h : execAll is s = .next t) (js : List Instr) :
    execAll (is ++ js) s = execAll js t := by
  induction is generalizing s with
  | nil => cases h; rfl
  | cons i is ih =>
    simp only [List.cons_append, execAll] at h ⊢
    cases hi : exec i s with
    | next u => rw [hi] at h; exact ih h
    | fault k => rw [hi] at h; cases h
    | refused k => rw [hi] at h; cases h

/-! ### The pointer and the data port -/

/-- Settles O46: W OAMADDR has the word of its select, and replaces the pointer. -/
theorem writeOamAddressSetsThePointer : Obligations.WriteOamAddressSetsThePointer := fun d _ =>
  ⟨opWord_eq_or_data 0 0 3 d, rfl⟩

/-- Settles O48: the word is a read word of select 4, whatever its DATA, and the answer only sets the result. -/
theorem readOamDataReturnsTheByte : Obligations.ReadOamDataReturnsTheByte := by
  refine ⟨fun x => ?word, fun _ => rfl⟩
  have hword : 0xC00#13 ||| x.setWidth 13 = opWord 0 1 4 x := (opWord_eq_or_data 0 1 4 x).symm
  obtain ⟨hreads, -⟩ := readWordsIgnoreData
  obtain ⟨-, hoamData, -⟩ := hreads x
  rw [hword, hoamData]

/-- The state W OAMDATA answers: the byte at the pointer, and the pointer one on (R211). -/
def State.pushOam (s : State) (d : Byte) : State :=
  (s.writePlace (.oam s.oamAddr.toNat) d).setOamAddr (s.oamAddr + 1)

theorem exec_wOamData (d : Byte) (s : State) : exec (.wOamData d) s = .next (s.pushOam d) := rfl

@[simp] theorem State.pushOam_oamAddr (s : State) (d : Byte) : (s.pushOam d).oamAddr = s.oamAddr + 1 := rfl

theorem State.pushOam_frame (s : State) (d : Byte) :
    s.pushOam d = { s with oam := (s.pushOam d).oam, oamAddr := (s.pushOam d).oamAddr } := rfl

theorem State.pushOam_canonical {s : State} (h : s.Canonical) (d : Byte) : (s.pushOam d).Canonical :=
  s.writePlace_canonical _ d h

theorem State.pushOam_readPlace_same {s : State} (h : s.Canonical) (d : Byte) :
    (s.pushOam d).readPlace (.oam s.oamAddr.toNat) = d := by
  rw [State.pushOam, State.setOamAddr_readPlace, s.readPlace_writePlace_same _ d h]

theorem State.pushOam_readPlace_other (s : State) (d : Byte) {pl : Place} (h : pl ≠ .oam s.oamAddr.toNat) :
    (s.pushOam d).readPlace pl = s.readPlace pl := by
  rw [State.pushOam, State.setOamAddr_readPlace, s.readPlace_writePlace_other _ pl d h]

/-! ### A run of W OAMDATA -/

/-- The pointer after `n` writes, as an index of OAM (R211). -/
theorem toNat_add_ofNat_byte (q : Byte) (n : Nat) : (q + BitVec.ofNat 8 n).toNat = (q.toNat + n) % 256 := by
  simp [BitVec.toNat_add]

/-- `n` writes in a row, at most one turn round OAM, store each byte once and move the pointer on by `n` (R211). -/
theorem execAll_wOamData_range {s : State} (h : s.Canonical) (f : Nat → Byte) {n : Nat} (hn : n ≤ 256) :
    ∃ t, execAll ((List.range n).map fun k => Instr.wOamData (f k)) s = .next t ∧ t.Canonical ∧
      t.oamAddr = s.oamAddr + BitVec.ofNat 8 n ∧
      ∀ k, k < n → t.readPlace (.oam ((s.oamAddr.toNat + k) % 256)) = f k := by
  induction n with
  | zero => exact ⟨s, rfl, h, (BitVec.add_zero _).symm, fun k hk => absurd hk (Nat.not_lt_zero k)⟩
  | succ n ih =>
    obtain ⟨t, hrun, hcan, hptr, hread⟩ := ih (by omega)
    have hindex : t.oamAddr.toNat = (s.oamAddr.toNat + n) % 256 := by rw [hptr, toNat_add_ofNat_byte]
    refine ⟨t.pushOam (f n), ?run, t.pushOam_canonical hcan _, ?pointer, fun k hk => ?byte⟩
    case run =>
      rw [List.range_succ, List.map_append, execAll_append_of_next hrun]
      rfl
    case pointer => rw [State.pushOam_oamAddr, hptr, BitVec.ofNat_add, BitVec.add_assoc]; rfl
    case byte =>
      rcases Nat.lt_succ_iff_lt_or_eq.1 hk with hlt | rfl
      · have hother : Place.oam ((s.oamAddr.toNat + k) % 256) ≠ .oam t.oamAddr.toNat := by
          rw [hindex, ne_eq, Place.oam.injEq]
          omega
        rw [t.pushOam_readPlace_other _ hother, hread k hlt]
      · rw [← hindex, t.pushOam_readPlace_same hcan]

/-- Settles O47: one write is `State.pushOam`; the two runs are the run of `n` writes at 256, where the pointer has come
full circle, and at 255. -/
theorem writeOamDataStoresAndWraps : Obligations.WriteOamDataStoresAndWraps := by
  refine ⟨fun d s => ⟨opWord_eq_or_data 0 0 4 d, s.pushOam d, exec_wOamData d s, toNat_add_ofNat_byte s.oamAddr 1,
    fun h => s.pushOam_readPlace_same h d, fun _ h => s.pushOam_readPlace_other d h, s.pushOam_frame d⟩,
    fun s f h => ⟨?fullTurn, ?oneShort⟩⟩
  case fullTurn =>
    obtain ⟨t, hrun, -, hptr, hread⟩ := execAll_wOamData_range h f (Nat.le_refl 256)
    exact ⟨t, hrun, hptr.trans (BitVec.add_zero _), hread⟩
  case oneShort =>
    obtain ⟨t, hrun, -, hptr, -⟩ := execAll_wOamData_range h f (n := 255) (by decide)
    exact ⟨t, hrun, hptr.trans (BitVec.sub_eq_add_neg _ 1#8).symm⟩

/-! ### The DMA engine -/

/-- A source page lies in the CPU address space whole: no source address wraps (R213). -/
theorem dmaSource_toNat (p : Byte) {i : Nat} (hi : i < 256) : (dmaSource p i).toNat = p.toNat * 256 + i := by
  simp only [dmaSource, BitVec.toNat_add, BitVec.toNat_shiftLeft, BitVec.toNat_setWidth, BitVec.toNat_ofNat,
    Nat.shiftLeft_eq]
  omega

theorem dmaSource_eq_ofNat (p : Byte) {i : Nat} (hi : i < 256) :
    dmaSource p i = BitVec.ofNat 16 (p.toNat * 256 + i) := by
  rw [← dmaSource_toNat p hi, BitVec.ofNat_toNat, BitVec.setWidth_eq]

/-- A CPU byte that a premise fixes is no free value (R216; log 1). -/
theorem State.cpuMemRead_of_known {s : State} {a : CpuAddr} {b : Byte}
    (h : Memory.lookup s.supplier.known a.toNat = some b) : s.cpuMemRead a = b := by
  simp only [State.cpuMemRead, h]

theorem State.copyPage_frame (s : State) (p : Byte) :
    s.copyPage p = { s with oam := (s.copyPage p).oam, draws := s.draws + 1 } := by
  simp only [State.copyPage]

theorem exec_oamDma_of_honest (p : Byte) {s : State} (h : s.supplier.reentrant = none) :
    exec (.oamDma p) s = .next (s.copyPage p) := by
  simp only [exec, execOamDma, h]

theorem exec_oamDma_of_reentrant (p : Byte) {s : State} {w : OpWord} (h : s.supplier.reentrant = some w) :
    exec (.oamDma p) s = .refused (.reentrantAccess w) := by
  simp only [exec, execOamDma, h]

/-- Settles O49: an honest supplier's OAMDMA is the page copy, whose source addresses are those of the page. -/
theorem oamDmaCopiesThePage : Obligations.OamDmaCopiesThePage := by
  intro p s hhonest
  refine ⟨opWord_eq_or_data 1 0 0 p, s.copyPage p, exec_oamDma_of_honest p hhonest, ?copied, ?known,
    s.copyPage_readPlace_other p, s.copyPage_oamAddr p, s.copyPage_frame p⟩
  case copied =>
    rintro ⟨-, -, hoam, -⟩ i hi
    rw [s.copyPage_readPlace_oam p i hi hoam, dmaSource_eq_ofNat p hi]
  case known =>
    intro i b hi hb
    rw [← dmaSource_toNat p hi] at hb
    rw [← dmaSource_eq_ofNat p hi, State.cpuMemRead_of_known hb]

/-- Settles O50: the refusal names the word the supplier issued, and its kind has code 17. -/
theorem reentrantSupplierIsRefused : Obligations.ReentrantSupplierIsRefused := fun p _ _ _ h _ =>
  ⟨exec_oamDma_of_reentrant p h, rfl⟩

end Sys2Proof.Machine
end

section
/-! SUPPORT. Proofs about the rendering collaborator's queries: the byte of each store that a query shows (R231, R232). -/

namespace Sys2Proof.Machine

theorem State.peekNametable_of_nametable (s : State) {a : PpuAddr} (h : 0x2000 ≤ a.toNat ∧ a.toNat ≤ 0x3EFF) :
    s.peekNametable a = some (s.nt.read (mirrorDecode s.mirrorMode a).toNat) := by
  rw [State.peekNametable, if_pos ((regionOf_nametable_iff a).2 h), s.place_of_nametable h, State.readPlace]

/-- Inside the pattern range only CHR_SIZE decides whether there is a byte. -/
theorem State.peekPattern_of_pattern (s : State) {a : PpuAddr} (h : a.toNat ≤ 0x1FFF) :
    s.peekPattern a = if a.toNat < s.chrSize then some (s.chr.read a.toNat) else none := by
  simp only [State.peekPattern, (regionOf_pattern_iff a).2 h, true_and, State.readPlace]

/-- Settles O45: the two queries by address show the place of their region, and the other three read their element by
definition. -/
theorem queriesReturnTheBytes : Obligations.QueriesReturnTheBytes := fun s _ _ _ =>
  ⟨s.peekNametable_of_nametable, rfl, s.peekPattern_of_pattern, rfl, rfl⟩

end Sys2Proof.Machine
end

section
/-! SUPPORT. Proofs about the decoder and the encoder: a word by its fields (R111), the row each word belongs to (R115,
R117), the reserved words (R120, R121, R123), and the CPU-bus binding (R125). -/

namespace Sys2Proof

/-! ### A word and its fields -/

@[simp] theorem dataField_opWord (space rw : BitVec 1) (sel : BitVec 3) (d : Byte) :
    dataField (opWord space rw sel d) = d :=
  BitVec.extractLsb'_append_eq_right

@[simp] theorem extractLsb'_sel_opWord (space rw : BitVec 1) (sel : BitVec 3) (d : Byte) :
    (opWord space rw sel d).extractLsb' 8 3 = sel := by
  rw [opWord, BitVec.extractLsb'_append_eq_of_le (by decide)]
  exact BitVec.extractLsb'_append_eq_right

@[simp] theorem extractLsb'_rwSel_opWord (space rw : BitVec 1) (sel : BitVec 3) (d : Byte) :
    (opWord space rw sel d).extractLsb' 8 4 = rw ++ sel := by
  rw [opWord, BitVec.extractLsb'_append_eq_of_le (by decide), BitVec.append_assoc]
  exact BitVec.extractLsb'_append_eq_right

@[simp] theorem getLsbD_eleven_opWord (space rw : BitVec 1) (sel : BitVec 3) (d : Byte) :
    (opWord space rw sel d).getLsbD 11 = rw.getLsbD 0 := by
  simp only [opWord, BitVec.getLsbD_append, Nat.reduceLT, Nat.reduceSub, if_false, if_true]

@[simp] theorem extractLsb'_low_opWord (space rw : BitVec 1) (sel : BitVec 3) (d : Byte) :
    (opWord space rw sel d).extractLsb' 0 5 = d.extractLsb' 0 5 :=
  BitVec.extractLsb'_append_eq_of_add_le (by decide)

/-- A word is its four fields side by side (R111). -/
theorem opWord_fields (w : OpWord) :
    opWord (w.extractLsb' 12 1) (w.extractLsb' 11 1) (w.extractLsb' 8 3) (dataField w) = w := by
  rw [opWord, dataField, BitVec.extractLsb'_append_extractLsb'_eq_extractLsb' (by rfl),
    BitVec.extractLsb'_append_extractLsb'_eq_extractLsb' (by rfl),
    BitVec.extractLsb'_append_extractLsb'_eq_extractLsb' (by rfl)]
  exact BitVec.extractLsb'_eq_self

theorem exists_eq_opWord (w : OpWord) : ∃ space rw sel d, w = opWord space rw sel d := ⟨_, _, _, _, (opWord_fields w).symm⟩

/-- The fields above DATA, with DATA put back. -/
theorem clearData_or_dataField (w : OpWord) : w &&& 0x1F00#13 ||| (dataField w).setWidth 13 = w := by
  obtain ⟨space, rw, sel, d, rfl⟩ := exists_eq_opWord w
  rw [opWord_and_clearData, dataField_opWord, ← opWord_eq_or_data]

/-! ### The row of a word -/

/-- Every row fixes all the fields above DATA, and its pattern has DATA 0 (R115). -/
theorem opcodeTable_fixesFields (r : OpRow) (hr : r ∈ opcodeTable) :
    r.mask &&& 0x1F00#13 = 0x1F00#13 ∧ r.pattern &&& 0x1F00#13 = r.pattern := by
  revert r
  decide

theorem OpRow.clearData_of_admits {r : OpRow} (hr : r ∈ opcodeTable) {w : OpWord} (h : r.admits w = true) :
    w &&& 0x1F00#13 = r.pattern := by
  obtain ⟨hmask, hpattern⟩ := opcodeTable_fixesFields r hr
  have hw : w &&& r.mask = r.pattern := eq_of_beq h
  rw [← hpattern, ← hw, BitVec.and_assoc, hmask]

/-- No two rows have one pattern, so no word belongs to two rows (R117). -/
theorem opcodeTable_patterns_nodup : (opcodeTable.map OpRow.pattern).Nodup := by decide

theorem decode_of_admits {r : OpRow} (hr : r ∈ opcodeTable) {w : OpWord} (h : r.admits w = true) :
    decode w = .ok (r.make (dataField w)) := by
  obtain ⟨r', hfind⟩ : ∃ r', opcodeTable.find? (·.admits w) = some r' :=
    Option.isSome_iff_exists.1 (List.find?_isSome.2 ⟨r, hr, h⟩)
  have hr' := List.mem_of_find?_eq_some hfind
  have hadmits : r'.admits w = true := List.find?_some (p := fun r : OpRow => r.admits w) hfind
  have hpattern : r'.pattern = r.pattern :=
    (OpRow.clearData_of_admits hr' hadmits).symm.trans (OpRow.clearData_of_admits hr h)
  have hrow : r' = r := List.inj_on_of_nodup_map opcodeTable_patterns_nodup hr' hr hpattern
  rw [decode, hfind, hrow]

theorem decode_eq_ok_iff {w : OpWord} {i : Instr} :
    decode w = .ok i ↔ ∃ r ∈ opcodeTable, r.admits w = true ∧ r.make (dataField w) = i := by
  refine ⟨fun h => ?_, fun ⟨r, hr, hadmits, hmake⟩ => by rw [decode_of_admits hr hadmits, hmake]⟩
  unfold decode at h
  cases hfind : opcodeTable.find? (·.admits w) with
  | none => rw [hfind] at h; cases h
  | some r =>
    rw [hfind] at h
    exact ⟨r, List.mem_of_find?_eq_some hfind, List.find?_some (p := fun r : OpRow => r.admits w) hfind, Except.ok.inj h⟩

/-- A word whose fields above DATA are those of no row is reserved. -/
theorem decode_of_no_row {w : OpWord} (h : ∀ r ∈ opcodeTable, r.pattern ≠ w &&& 0x1F00#13) :
    decode w = .error (.reservedEncoding w) := by
  have hnone : opcodeTable.find? (·.admits w) = none :=
    List.find?_eq_none.2 fun r hr hadmits => h r hr (OpRow.clearData_of_admits hr hadmits).symm
  simp only [decode, hnone]

/-- The `k`-th row of the table. -/
def opRow (k : Fin 13) : OpRow := opcodeTable.get k

theorem opRow_mem (k : Fin 13) : opRow k ∈ opcodeTable := List.get_mem opcodeTable k

/-- A word with the fields of a row that leaves DATA out of its mask decodes by that row. -/
theorem decode_opWord_of_row {space rw : BitVec 1} {sel : BitVec 3} (k : Fin 13)
    (hmask : (opRow k).mask = 0x1F00#13) (hpattern : (opRow k).pattern = opWord space rw sel 0)
    (d : Byte) : decode (opWord space rw sel d) = .ok ((opRow k).make d) := by
  have hadmits : (opRow k).admits (opWord space rw sel d) = true := by
    rw [OpRow.admits, hmask, hpattern, opWord_and_clearData, beq_self_eq_true]
  rw [decode_of_admits (opRow_mem k) hadmits, dataField_opWord]

/-- ENVSTAT's row, which tests the low DATA bits too, admits each legal operand (R123). -/
theorem decode_envStat_of_legal {f : Byte} (h : envOperandLegal f) : decode (opWord 1 0 1 f) = .ok (.envStat f) := by
  have hadmits : (opRow 12).admits (opWord 1 0 1 f) = true := by revert f; decide
  rw [decode_of_admits (opRow_mem 12) hadmits, dataField_opWord]
  rfl

/-! ### Encoding and decoding -/

/-- Settles O2: each operation's word has the fields of its own row, and keeps the operand in DATA. -/
theorem decodeEncodeRoundTrip : Obligations.DecodeEncodeRoundTrip := by
  unfold Obligations.DecodeEncodeRoundTrip
  intro i hi
  cases i with
  | wCtrl d => exact decode_opWord_of_row 0 rfl rfl d
  | wMask d => exact decode_opWord_of_row 1 rfl rfl d
  | wStatus d => exact decode_opWord_of_row 2 rfl rfl d
  | wOamAddr d => exact decode_opWord_of_row 3 rfl rfl d
  | wOamData d => exact decode_opWord_of_row 4 rfl rfl d
  | wScroll d => exact decode_opWord_of_row 5 rfl rfl d
  | wAddr d => exact decode_opWord_of_row 6 rfl rfl d
  | wData d => exact decode_opWord_of_row 7 rfl rfl d
  | rStatus => exact decode_opWord_of_row 8 rfl rfl 0
  | rOamData => exact decode_opWord_of_row 9 rfl rfl 0
  | rData => exact decode_opWord_of_row 10 rfl rfl 0
  | oamDma p => exact decode_opWord_of_row 11 rfl rfl p
  | envStat f => exact decode_envStat_of_legal (of_decide_eq_true hi)

/-- The operations whose word leaves DATA free: the three reads (R116). -/
abbrev Instr.IsRead (i : Instr) : Prop := i = .rStatus ∨ i = .rOamData ∨ i = .rData

/-- The word of a row's operation is the row's pattern, with the operand in DATA unless the operation is a read. -/
theorem opcodeTable_encode_make (r : OpRow) (hr : r ∈ opcodeTable) (d : Byte) :
    encode (r.make d) = if (r.make d).IsRead then r.pattern else r.pattern ||| d.setWidth 13 := by
  simp only [opcodeTable, List.mem_cons, List.not_mem_nil, or_false] at hr
  rcases hr with rfl | rfl | rfl | rfl | rfl | rfl | rfl | rfl | rfl | rfl | rfl | rfl | rfl
  iterate 8 · exact opWord_eq_or_data _ _ _ d
  iterate 3 · rfl
  iterate 2 · exact opWord_eq_or_data _ _ _ d

theorem encode_of_decode {w : OpWord} {i : Instr} (h : decode w = .ok i) :
    encode i = if i.IsRead then w &&& 0x1F00#13 else w := by
  obtain ⟨r, hr, hadmits, rfl⟩ := decode_eq_ok_iff.1 h
  have hencode := opcodeTable_encode_make r hr (dataField w)
  rwa [← OpRow.clearData_of_admits hr hadmits, clearData_or_dataField] at hencode

/-- The one ill-formed term is an ENVSTAT, whose word is reserved (R123). -/
theorem wellFormed_of_decode {w : OpWord} {i : Instr} (h : decode w = .ok i) : WellFormed i := by
  cases i with
  | envStat f =>
    refine decide_eq_true (by_contra fun hillegal => ?_)
    have hword : opWord 1 0 1 f = w := encode_of_decode h
    rw [← hword, decode_envStat_of_illegal hillegal] at h
    cases h
  | _ => rfl

/-- Settles O5: a word is its row's pattern with its own DATA, which the row's operation keeps unless it is a read. -/
theorem decodedWordsReEncode : Obligations.DecodedWordsReEncode := by
  unfold Obligations.DecodedWordsReEncode
  intro w i h
  have hencode := encode_of_decode h
  refine ⟨wellFormed_of_decode h, ?_⟩
  by_cases hread : i.IsRead
  · rw [if_pos hread] at hencode ⊢; exact hencode
  · rw [if_neg hread] at hencode ⊢; exact hencode

/-! ### The nested choice on the fields -/

/-- Settles O1: each word has the fields of one row, and its operand in DATA. -/
theorem specWordsDecode : Obligations.SpecWordsDecode := ⟨rfl, rfl, rfl, rfl, rfl, rfl, rfl, rfl, rfl, rfl, rfl, rfl, rfl⟩

theorem bitVec1_cases (b : BitVec 1) : b = 0 ∨ b = 1 := by revert b; decide

theorem bitVec3_cases (x : BitVec 3) : x = 0 ∨ x = 1 ∨ x = 2 ∨ x = 3 ∨ x = 4 ∨ x = 5 ∨ x = 6 ∨ x = 7 := by
  revert x; decide

/-- A word whose fields above DATA are those of no row is reserved, whatever its DATA. -/
theorem decode_opWord_of_no_row {space rw : BitVec 1} {sel : BitVec 3}
    (h : ∀ r ∈ opcodeTable, r.pattern ≠ opWord space rw sel 0) (d : Byte) :
    decode (opWord space rw sel d) = .error (.reservedEncoding (opWord space rw sel d)) :=
  decode_of_no_row fun r hr => by rw [opWord_and_clearData]; exact h r hr

/-- The space SPACE = 1: two codes of `w[11:8]` have a row, the second one with a test of DATA (R115, R120, R123). -/
theorem decode_space_one (rw : BitVec 1) (sel : BitVec 3) (d : Byte) :
    decode (opWord 1 rw sel d) =
      if rw ++ sel = 0b0000#4 then .ok (.oamDma d)
      else if rw ++ sel = 0b0001#4 then
        (if envOperandLegal d then .ok (.envStat d) else .error (.reservedEncoding (opWord 1 rw sel d)))
      else .error (.reservedEncoding (opWord 1 rw sel d)) := by
  by_cases h0 : rw ++ sel = 0b0000#4
  · obtain ⟨rfl, rfl⟩ : rw = 0 ∧ sel = 0 := by revert rw sel; decide
    exact decode_opWord_of_row 11 rfl rfl d
  by_cases h1 : rw ++ sel = 0b0001#4
  · obtain ⟨rfl, rfl⟩ : rw = 0 ∧ sel = 1 := by revert rw sel; decide
    rw [if_neg h0, if_pos h1]
    by_cases hlegal : envOperandLegal d
    · rw [if_pos hlegal, decode_envStat_of_legal hlegal]
    · rw [if_neg hlegal, decode_envStat_of_illegal hlegal]
  · rw [if_neg h0, if_neg h1]
    exact decode_opWord_of_no_row (by revert rw sel; decide) d

/-- Settles O3: in the port space one case per RW and SEL, each with its row or with none; the other space by
`decode_space_one`. -/
theorem decodingFollowsTheFields : Obligations.DecodingFollowsTheFields := by
  unfold Obligations.DecodingFollowsTheFields
  intro w
  obtain ⟨space, rw, sel, d, rfl⟩ := exists_eq_opWord w
  have hdata : (opWord space rw sel d).extractLsb' 0 8 = d := dataField_opWord space rw sel d
  simp only [getLsbD_twelve_opWord, getLsbD_eleven_opWord, extractLsb'_sel_opWord, extractLsb'_rwSel_opWord,
    extractLsb'_low_opWord, hdata]
  rcases bitVec1_cases space with rfl | rfl
  · rcases bitVec1_cases rw with rfl | rfl
    · rcases bitVec3_cases sel with rfl | rfl | rfl | rfl | rfl | rfl | rfl | rfl
      · exact decode_opWord_of_row 0 rfl rfl d
      · exact decode_opWord_of_row 1 rfl rfl d
      · exact decode_opWord_of_row 2 rfl rfl d
      · exact decode_opWord_of_row 3 rfl rfl d
      · exact decode_opWord_of_row 4 rfl rfl d
      · exact decode_opWord_of_row 5 rfl rfl d
      · exact decode_opWord_of_row 6 rfl rfl d
      · exact decode_opWord_of_row 7 rfl rfl d
    · rcases bitVec3_cases sel with rfl | rfl | rfl | rfl | rfl | rfl | rfl | rfl
      · exact decode_opWord_of_no_row (by decide) d
      · exact decode_opWord_of_no_row (by decide) d
      · exact decode_opWord_of_row 8 rfl rfl d
      · exact decode_opWord_of_no_row (by decide) d
      · exact decode_opWord_of_row 9 rfl rfl d
      · exact decode_opWord_of_no_row (by decide) d
      · exact decode_opWord_of_no_row (by decide) d
      · exact decode_opWord_of_row 10 rfl rfl d
  · exact decode_space_one rw sel d

/-- The three classes of reserved words, by their fields (R120, R121, R123). -/
def ReservedFields (w : OpWord) : Prop :=
  (w.getLsbD 12 = true ∧ w.extractLsb' 8 4 ≠ 0b0000#4 ∧ w.extractLsb' 8 4 ≠ 0b0001#4) ∨
  (w.getLsbD 12 = false ∧ w.getLsbD 11 = true ∧
    (w.extractLsb' 8 3 = 0#3 ∨ w.extractLsb' 8 3 = 1#3 ∨ w.extractLsb' 8 3 = 3#3 ∨
      w.extractLsb' 8 3 = 5#3 ∨ w.extractLsb' 8 3 = 6#3)) ∨
  (w.extractLsb' 8 5 = 0b10001#5 ∧ w.extractLsb' 0 5 ≠ 0#5)

/-- ENVSTAT's five fields above DATA, read as SPACE and `w[11:8]`. -/
theorem envStat_fields {w : OpWord} (h : w.extractLsb' 8 5 = 0b10001#5) :
    w.getLsbD 12 = true ∧ w.extractLsb' 8 4 = 0b0001#4 := by
  have hspace : (w.extractLsb' 8 5).getLsbD 4 = w.getLsbD 12 := by simp
  have hcode : (w.extractLsb' 8 5).extractLsb' 0 4 = w.extractLsb' 8 4 := by ext k hk; simp; omega
  rw [h] at hspace hcode
  exact ⟨hspace.symm, hcode.symm⟩

theorem decode_of_reservedFields {w : OpWord} (h : ReservedFields w) : decode w = .error (.reservedEncoding w) := by
  rw [decodingFollowsTheFields w]
  rcases h with ⟨hspace, h0, h1⟩ | ⟨hspace, hread, hsel⟩ | ⟨henv, hlow⟩
  · simp [hspace, h0, h1]
  · rw [if_pos hspace, if_neg (by simp [hread])]
    rcases hsel with hsel | hsel | hsel | hsel | hsel <;> simp [hsel]
  · obtain ⟨hspace, hcode⟩ := envStat_fields henv
    simp [hspace, hcode, hlow]

end Sys2Proof

namespace Sys2Proof.Machine

/-! ### The CPU-bus binding -/

theorem isPortAddress_iff (a : CpuAddr) : isPortAddress a = true ↔ 0x2000 ≤ a.toNat ∧ a.toNat ≤ 0x3FFF := by
  simp [isPortAddress]

/-- Settles O7: the two tests of the binding exclude each other, and each word is one the decoder's rows know. -/
theorem cpuBusBinding : Obligations.CpuBusBinding := by
  unfold Obligations.CpuBusBinding
  refine fun a d => ⟨fun hport => ⟨?write, ?read⟩, ?dma, fun ⟨hout, hdma⟩ => ?outside⟩
  case write => rw [busWriteWord, if_pos ((isPortAddress_iff a).2 hport)]
  case read =>
    exact ⟨opWord 0 1 (a.extractLsb' 0 3) 0, if_pos ((isPortAddress_iff a).2 hport), getLsbD_twelve_opWord _ _ _ _,
      getLsbD_eleven_opWord _ _ _ _, extractLsb'_sel_opWord _ _ _ _⟩
  case dma =>
    rintro rfl
    exact ⟨congrArg some (decode_opWord_of_row 11 rfl rfl d), rfl⟩
  case outside =>
    have hport : ¬isPortAddress a = true := by rw [isPortAddress_iff]; omega
    exact ⟨by rw [busWriteWord, if_neg hport, if_neg hdma], if_neg hport⟩

end Sys2Proof.Machine
end

section
/-! SUPPORT. Proofs about a step: what it answers in each case of the marks and the pending list (R24, R32, R94, R256),
the block once marked (R253, R254), and the operations that can stop it (R255, R256). -/

namespace Sys2Proof.Machine

/-! ### What a step answers -/

theorem step_of_faultMark {s : State} {k : Fault} (h : s.faultMark = some k) : step s = .fault k := by
  rw [step, State.take, h]

theorem step_of_refusedMark {s : State} {k : Refusal} (hf : s.faultMark = none) (h : s.refusedMark = some k) :
    step s = .refused k := by
  rw [step, State.take, hf, h]

theorem step_of_idle {s : State} (hf : s.faultMark = none) (hr : s.refusedMark = none) (hp : s.pending = []) :
    step s = .next s := by
  rw [step, State.take, hf, hr, hp]

theorem step_of_reserved {s : State} {q : Issue} {rest : List Issue} {w : OpWord} (hf : s.faultMark = none)
    (hr : s.refusedMark = none) (hp : s.pending = q :: rest) (hd : decode q.word = .error (.reservedEncoding w)) :
    step s = .refused (.reservedEncoding w) := by
  simp only [step, State.take, hf, hr, hp, hd]

theorem step_of_decode {s : State} {q : Issue} {rest : List Issue} {i : Instr} (hf : s.faultMark = none)
    (hr : s.refusedMark = none) (hp : s.pending = q :: rest) (hd : decode q.word = .ok i) :
    step s = exec i (s.accept q rest) := by
  simp only [step, State.take, hf, hr, hp, hd]

/-- An unmarked block does nothing, refuses a reserved word, or runs the oldest operation. -/
theorem step_cases {s : State} (hf : s.faultMark = none) (hr : s.refusedMark = none) :
    (s.pending = [] ∧ step s = .next s) ∨
    (∃ w, step s = .refused (.reservedEncoding w)) ∨
    (∃ q rest i, s.pending = q :: rest ∧ decode q.word = .ok i ∧ step s = exec i (s.accept q rest)) := by
  cases hp : s.pending with
  | nil => exact .inl ⟨rfl, step_of_idle hf hr hp⟩
  | cons q rest =>
    cases hd : decode q.word with
    | error e =>
      obtain ⟨w⟩ := e
      exact .inr (.inl ⟨w, step_of_reserved hf hr hp hd⟩)
    | ok i => exact .inr (.inr ⟨q, rest, i, rfl, hd, step_of_decode hf hr hp hd⟩)

/-- A step that answers a next state left an idle block as it was, or ran the oldest operation. -/
theorem step_next_cases {s t : State} (h : step s = .next t) :
    t = s ∨ ∃ q rest i, decode q.word = .ok i ∧ exec i (s.accept q rest) = .next t := by
  cases hf : s.faultMark with
  | some k => rw [step_of_faultMark hf] at h; cases h
  | none =>
    cases hr : s.refusedMark with
    | some k => rw [step_of_refusedMark hf hr] at h; cases h
    | none =>
      rcases step_cases hf hr with ⟨-, e⟩ | ⟨w, e⟩ | ⟨q, rest, i, -, hd, e⟩ <;> rw [e] at h
      · cases h; exact .inl rfl
      · cases h
      · exact .inr ⟨q, rest, i, hd, h⟩

/-- Settles O9: the state an operation runs in is `State.accept`. -/
theorem stepRunsTheIssuedOperation : Obligations.StepRunsTheIssuedOperation := fun _ _ _ _ => step_of_decode

/-- Settles O10: the idle case of the step. -/
theorem nothingIssuedNothingHappens : Obligations.NothingIssuedNothingHappens := fun _ => step_of_idle

/-- Settles O6: a word with reserved fields decodes to no operation, and its refusal leaves all but the mark. -/
theorem reservedWordsAreRefused : Obligations.ReservedWordsAreRefused := by
  unfold Obligations.ReservedWordsAreRefused
  intro s q rest hf hr hp hreserved
  have hstep := step_of_reserved hf hr hp (decode_of_reservedFields hreserved)
  refine ⟨hstep, ?_⟩
  rw [State.after, hstep, s.record_refused_of_not_reentrant _ fun _ => Refusal.noConfusion]

/-! ### A marked block -/

theorem State.after_of_faultMark {s : State} {k : Fault} (h : s.faultMark = some k) : s.after = s := by
  rw [State.after, step_of_faultMark h, State.record, ← h]

/-- A refusal recorded again changes nothing: OAM is left alone once the mark is set. -/
theorem State.after_of_refusedMark {s : State} {k : Refusal} (hf : s.faultMark = none) (h : s.refusedMark = some k) :
    s.after = s := by
  rw [State.after, step_of_refusedMark hf h, State.record, s.oamLeft_of_marked k k h, ← h]

/-- Settles O11: the answer's record sets the mark, and a marked state is a fixed point of `State.after`. -/
theorem markedBlockTakesNoOperation : Obligations.MarkedBlockTakesNoOperation := by
  unfold Obligations.MarkedBlockTakesNoOperation
  refine fun s hf _ => ⟨fun k hk => ?fault, fun k hk => ?refused⟩
  case fault =>
    have hafter : s.after = { s with faultMark := some k } := by rw [State.after, hk, State.record]
    refine ⟨hafter, fun more n => Function.iterate_fixed (State.after_of_faultMark (k := k) ?_) n⟩
    rw [hafter]
  case refused =>
    have hafter : s.after = { s with refusedMark := some k, oam := s.oamLeft k } := by rw [State.after, hk, State.record]
    refine ⟨by rw [hafter], fun hother => ?_, fun more n =>
      Function.iterate_fixed (State.after_of_refusedMark (k := k) ?_ ?_) n⟩
    · rw [hafter]; exact s.oamLeft_of_not_reentrant k hother
    · rw [hafter]; exact hf
    · rw [hafter]

/-! ### The stops of a decoded operation -/

/-- Only the two data-port operations fault (R256). -/
theorem exec_fault_cases {i : Instr} {s : State} {k : Fault} (h : exec i s = .fault k) :
    (i = .rData ∨ ∃ d, i = .wData d) ∧ k = .patternOutOfRange s.addr := by
  cases i with
  | rData =>
    obtain ⟨-, hk⟩ := (execRData_eq_fault_iff s k).1 h
    exact ⟨.inl rfl, hk⟩
  | wData d =>
    obtain ⟨-, -, hk⟩ := (execWData_eq_fault_iff d s k).1 h
    exact ⟨.inr ⟨d, rfl⟩, hk⟩
  | oamDma p => rcases execOamDma_cases p s with ⟨-, e⟩ | ⟨w, -, e⟩ <;> cases e.symm.trans h
  | envStat f => rcases execEnvStat_cases f s with ⟨-, e⟩ | ⟨-, e⟩ <;> cases e.symm.trans h
  | _ => cases h

/-- Only OAMDMA is refused, and an ENVSTAT whose operand no word decodes to (R256; log 16). -/
theorem exec_refused_cases {i : Instr} {s : State} {k : Refusal} (h : exec i s = .refused k) :
    (∃ p w, i = .oamDma p ∧ s.supplier.reentrant = some w ∧ k = .reentrantAccess w) ∨ ¬WellFormed i := by
  cases i with
  | rData => rcases execRData_cases s with ⟨-, e⟩ | ⟨-, -, e⟩ | ⟨-, -, e⟩ <;> cases e.symm.trans h
  | wData d => rcases execWData_cases d s with ⟨-, e⟩ | ⟨-, -, e⟩ | ⟨-, -, e⟩ <;> cases e.symm.trans h
  | oamDma p =>
    rcases execOamDma_cases p s with ⟨-, e⟩ | ⟨w, hw, e⟩ <;> cases e.symm.trans h
    exact .inl ⟨p, w, rfl, hw, rfl⟩
  | envStat f =>
    rcases execEnvStat_cases f s with ⟨-, e⟩ | ⟨hillegal, -⟩
    · cases e.symm.trans h
    · exact .inr fun hwf => hillegal (of_decide_eq_true hwf)
  | _ => cases h

/-- Settles O54: the stops by case, ENVSTAT's being shut out because a decoded operation is well-formed. -/
theorem stopsHaveOneReason : Obligations.StopsHaveOneReason := fun _ _ _ hd =>
  ⟨fun _ => exec_fault_cases, fun _ hk => by
    rcases exec_refused_cases hk with ⟨p, w, hi, hw, hk⟩ | hillegal
    · exact ⟨p, w, hi, hw, hk⟩
    · exact absurd (wellFormed_of_decode hd) hillegal⟩

/-! ### The refusal of a re-entrant OAMDMA -/

theorem State.oamLeft_of_reentrant {s : State} {q : Issue} {rest : List Issue} {p : Byte} (hr : s.refusedMark = none)
    (hp : s.pending = q :: rest) (hd : decode q.word = .ok (.oamDma p)) (w : OpWord) :
    s.oamLeft (.reentrantAccess w) =
      s.oam.fill (Config.copiesDone s.draws p w).val ((s.accept q rest).pageByte p) := by
  simp only [State.oamLeft, hr, hp, hd]

/-- Settles O60: the number of copies done is the model's free value, and the refusal's OAM is a fill of that length. -/
theorem reentrantRefusalLeavesSomeCopies : Obligations.ReentrantRefusalLeavesSomeCopies := by
  unfold Obligations.ReentrantRefusalLeavesSomeCopies
  intro s q rest p w hf hr hp hd hw
  have hstep : step s = .refused (.reentrantAccess w) :=
    (step_of_decode hf hr hp hd).trans (exec_oamDma_of_reentrant p hw)
  have hafter : s.after = { s with refusedMark := some (.reentrantAccess w), oam := s.oamLeft (.reentrantAccess w) } := by
    rw [State.after, hstep, State.record]
  have hoam : s.after.oam = _ := (congrArg State.oam hafter).trans (State.oamLeft_of_reentrant hr hp hd w)
  have hm := (Config.copiesDone s.draws p w).isLt
  refine ⟨hstep, by rw [hafter], (Config.copiesDone s.draws p w).val, by omega, ?done, fun i hi => ?kept⟩
  case done =>
    rintro ⟨-, -, hwf, -⟩ i hi
    rw [State.readPlace, hoam, Memory.read_fill_inside _ _ _ hwf i hi, State.pageByte, dmaSource_eq_ofNat p (by omega)]
    rfl
  case kept => rw [State.readPlace, hoam, Memory.read_fill_outside _ _ _ i hi, State.readPlace]

end Sys2Proof.Machine
end

section
/-! SUPPORT. Proofs about every next state at once: the effects an operation can have (R33), the frame of memory, the NMI
request (R235, R236), the invariant (R57) and the parameters (R52, R242). -/

namespace Sys2Proof.Machine

/-! ### The effects of an operation -/

/-- The next states an operation can answer, one or two for each operation (R140 to R151, R170, R172, R190 to R193,
R210 to R213). -/
inductive Effect (s : State) : Instr → State → Prop
  | wCtrl (d : Byte) : Effect s (.wCtrl d) (s.setCtrl d)
  | wMask (d : Byte) : Effect s (.wMask d) (s.setMask d)
  | wStatus (d : Byte) : Effect s (.wStatus d) s
  | wOamAddr (d : Byte) : Effect s (.wOamAddr d) (s.setOamAddr d)
  | wOamData (d : Byte) : Effect s (.wOamData d) (s.pushOam d)
  | wScroll (d : Byte) : Effect s (.wScroll d) (s.writeScrollLatch d)
  | wAddr (d : Byte) : Effect s (.wAddr d) (s.writeAddrLatch d)
  | wDataDisabled (d : Byte) (h : s.storePlace s.addr = none) :
      Effect s (.wData d) (s.incrementAddr s.incrementStep)
  | wDataStored (d : Byte) (h : s.storePlace s.addr = some (s.place s.addr)) (hin : s.outOfRange s.addr = false) :
      Effect s (.wData d) ((s.writePlace (s.place s.addr) d).incrementAddr s.incrementStep)
  | rStatus : Effect s .rStatus (s.clearVblank.resetToggles.returns s.status)
  | rOamData : Effect s .rOamData (s.returns (s.readPlace (.oam s.oamAddr.toNat)))
  | rDataPalette (h : 0x3F00 ≤ s.addr.toNat) :
      Effect s .rData ((s.incrementAddr s.incrementStep).returns (s.readPlace (s.place s.addr)))
  | rDataBuffered (h : s.addr.toNat < 0x3F00) (hin : s.outOfRange s.addr = false) :
      Effect s .rData (((s.setRdbuf (s.readPlace (s.place s.addr))).incrementAddr s.incrementStep).returns s.rdbuf)
  | oamDma (p : Byte) (h : s.supplier.reentrant = none) : Effect s (.oamDma p) (s.copyPage p)
  | envStat (f : Byte) (h : envOperandLegal f) :
      Effect s (.envStat f) (s.setStatusFlags (envVblank f) (envSprite0Hit f) (envSpriteOverflow f))

theorem exec_effect {i : Instr} {s t : State} (h : exec i s = .next t) : Effect s i t := by
  cases i with
  | wCtrl d => cases h; exact .wCtrl d
  | wMask d => cases h; exact .wMask d
  | wStatus d => cases h; exact .wStatus d
  | wOamAddr d => cases h; exact .wOamAddr d
  | wOamData d => cases h; exact .wOamData d
  | wScroll d => cases h; exact .wScroll d
  | wAddr d => cases h; exact .wAddr d
  | rStatus => cases h; exact .rStatus
  | rOamData => cases h; exact .rOamData
  | wData d =>
    rcases execWData_cases d s with ⟨hpl, e⟩ | ⟨-, -, e⟩ | ⟨hpl, hin, e⟩ <;> cases e.symm.trans h
    · exact .wDataDisabled d hpl
    · exact .wDataStored d hpl hin
  | rData =>
    rcases execRData_cases s with ⟨-, e⟩ | ⟨-, hpal, e⟩ | ⟨hin, hbelow, e⟩ <;> cases e.symm.trans h
    · exact .rDataPalette hpal
    · exact .rDataBuffered hbelow hin
  | oamDma p =>
    rcases execOamDma_cases p s with ⟨hhonest, e⟩ | ⟨w, -, e⟩ <;> cases e.symm.trans h
    exact .oamDma p hhonest
  | envStat f =>
    rcases execEnvStat_cases f s with ⟨hlegal, e⟩ | ⟨-, e⟩ <;> cases e.symm.trans h
    exact .envStat f hlegal

/-! ### The elements an operation changes -/

/-- No address of the PPU space selects a byte of OAM (R74). -/
@[simp] theorem State.writePlace_place_oam (s : State) (a : PpuAddr) (v : Byte) :
    (s.writePlace (s.place a) v).oam = s.oam := by
  unfold State.place; split <;> rfl

/-- A store through an address changes CHR only where CHR_WRITABLE lets it (R76, R78). -/
theorem State.writePlace_place_chr {s : State} {a : PpuAddr} (h : s.storePlace a = some (s.place a)) (v : Byte) :
    (s.writePlace (s.place a) v).chr = s.chr ∨ s.chrWritable = true := by
  by_cases hpat : a.toNat ≤ 0x1FFF
  · refine .inr (by_contra fun hw => ?_)
    rw [s.storePlace_eq_none_iff.2 ⟨hpat, by simpa using hw⟩] at h
    cases h
  · left
    rcases ppuAddr_range_cases a with h' | hnt | hpal
    · exact absurd h' hpat
    · rw [s.place_of_nametable hnt]; rfl
    · rw [s.place_of_palette hpal]; rfl

/-- Settles O51: each effect is read element by element; only W DATA's store needs to know which store it writes. -/
theorem onlyTheMatrixWrites : Obligations.OnlyTheMatrixWrites := by
  unfold Obligations.OnlyTheMatrixWrites
  intro i s t h
  cases exec_effect h with
  | wDataStored d hpl _ =>
    have hchr := State.writePlace_place_chr hpl d
    simpa using hchr
  | wOamData d => simp [State.pushOam]
  | _ => simp

/-! ### The frame of memory -/

@[simp] theorem State.setMask_readPlace (s : State) (m : Byte) (pl : Place) :
    (s.setMask m).readPlace pl = s.readPlace pl := State.readPlace_congr rfl rfl rfl rfl pl

@[simp] theorem State.setStatusFlags_readPlace (s : State) (v h o : Bool) (pl : Place) :
    (s.setStatusFlags v h o).readPlace pl = s.readPlace pl := State.readPlace_congr rfl rfl rfl rfl pl

@[simp] theorem State.clearVblank_readPlace (s : State) (pl : Place) : s.clearVblank.readPlace pl = s.readPlace pl :=
  State.readPlace_congr rfl rfl rfl rfl pl

@[simp] theorem State.resetToggles_readPlace (s : State) (pl : Place) : s.resetToggles.readPlace pl = s.readPlace pl :=
  State.readPlace_congr rfl rfl rfl rfl pl

/-- Settles O52: three effects store, each by a rule for one place or for OAM; no other one touches a store. -/
theorem onlyTheStoredByteChanges : Obligations.OnlyTheStoredByteChanges := by
  unfold Obligations.OnlyTheStoredByteChanges
  intro i s t pl h hpl
  cases exec_effect h with
  | wDataStored d hstore _ =>
    have hother : pl ≠ s.place s.addr := fun e => hpl (e ▸ hstore)
    rw [State.incrementAddr_readPlace, s.readPlace_writePlace_other _ _ d hother]
  | wOamData d => exact s.pushOam_readPlace_other d hpl
  | oamDma p _ => exact s.copyPage_readPlace_other p pl hpl
  | _ => simp

/-- Settles O37: the two rules of one place. -/
theorem readAfterWrite : Obligations.ReadAfterWrite := fun s pl ql v =>
  ⟨s.readPlace_writePlace_same pl v, s.readPlace_writePlace_other pl ql v⟩

/-! ### The NMI request -/

theorem State.nmiRequested_eq (s : State) : s.nmiRequested = (s.ctrl.getLsbD 7 && s.status.getLsbD 7) := rfl

/-- Settles O20: the request reads one bit of CTRL and one of STATUS, and only three effects write either. -/
theorem nmiRequestLevel : Obligations.NmiRequestLevel := by
  unfold Obligations.NmiRequestLevel
  refine ⟨State.nmiRequested_eq, fun i s t h => ?_⟩
  cases exec_effect h with
  | wCtrl d => rfl
  | rStatus => rw [State.nmiRequested_eq, State.returns_status, State.resetToggles_status, s.clearVblank_getLsbD 7]; simp
  | envStat f _ => rw [State.nmiRequested_eq, s.setStatusFlags_getLsbD]; rfl
  | wOamData d => rfl
  | _ => simp [State.nmiRequested_eq]

/-! ### The parameters -/

theorem exec_params {i : Instr} {s t : State} (h : exec i s = .next t) :
    t.mirrorMode = s.mirrorMode ∧ t.chrWritable = s.chrWritable ∧ t.chrSize = s.chrSize := by
  obtain ⟨-, -, -, -, -, -, -, -, -, -, -, -, hsize, hmode, hwritable, -⟩ := onlyTheMatrixWrites i s t h
  exact ⟨hmode, hwritable, hsize⟩

/-- Settles O59: an idle step changes nothing, and no operation writes a parameter. -/
theorem parametersAreFixed : Obligations.ParametersAreFixed := by
  unfold Obligations.ParametersAreFixed
  intro s t h
  rcases step_next_cases h with rfl | ⟨q, rest, i, -, hexec⟩
  · exact ⟨rfl, rfl, rfl⟩
  · exact exec_params (s := s.accept q rest) hexec

/-! ### The invariant -/

/-- The invariant reads STATUS's low bits, CHR_SIZE and the four stores. -/
theorem State.inv_congr {s t : State} (hstatus : t.status.extractLsb' 0 5 = s.status.extractLsb' 0 5)
    (hsize : t.chrSize = s.chrSize) (hnt : t.nt = s.nt) (hpal : t.pal = s.pal) (hoam : t.oam = s.oam)
    (hchr : t.chr = s.chr) (h : s.Inv) : t.Inv := by
  unfold State.Inv State.Canonical State.InSize
  rw [hstatus, hsize, hnt, hpal, hoam, hchr]
  exact h

theorem State.writePlace_place_inv {s : State} (h : s.Inv) {a : PpuAddr} (hin : s.outOfRange a = false) (v : Byte) :
    (s.writePlace (s.place a) v).Inv := by
  obtain ⟨hlow, hsize, hcan, hins⟩ := h
  exact ⟨by rw [State.writePlace_status]; exact hlow, by rw [State.writePlace_chrSize]; exact hsize,
    s.writePlace_canonical _ v hcan, s.writePlace_inSize a v hin hins⟩

theorem State.pushOam_inv {s : State} (h : s.Inv) (d : Byte) : (s.pushOam d).Inv := by
  obtain ⟨hlow, hsize, hcan, hnt, hpal, hoam, hchr⟩ := h
  exact ⟨hlow, hsize, s.pushOam_canonical hcan d, hnt, hpal, Memory.write_within _ _ _ d hoam s.oamAddr.isLt, hchr⟩

theorem State.copyPage_inv {s : State} (h : s.Inv) (p : Byte) : (s.copyPage p).Inv := by
  obtain ⟨hlow, hsize, ⟨hntWf, hpalWf, hoamWf, hchrWf⟩, hnt, hpal, hoam, hchr⟩ := h
  unfold State.Inv State.Canonical State.InSize
  simp only [State.copyPage_status, State.copyPage_chrSize, State.copyPage_nt, State.copyPage_pal, State.copyPage_oam,
    State.copyPage_chr]
  exact ⟨hlow, hsize, ⟨hntWf, hpalWf, Memory.fill_wf _ _ _ hoamWf, hchrWf⟩, hnt, hpal,
    Memory.fill_within _ _ _ _ hoam (Nat.le_refl 256), hchr⟩

theorem Effect.inv {i : Instr} {s t : State} (e : Effect s i t) (h : s.Inv) : t.Inv := by
  cases e with
  | wDataStored d _ hin => exact State.inv_congr rfl rfl rfl rfl rfl rfl (State.writePlace_place_inv h hin d)
  | wOamData d => exact State.pushOam_inv h d
  | oamDma p _ => exact State.copyPage_inv h p
  | _ => exact State.inv_congr (by simp [flagSet_low]) (by simp) (by simp) (by simp) (by simp) (by simp) h

/-- Settles O55: taking an operation off the list touches no element of the invariant, and each effect keeps it: three
store, and the two on STATUS leave its low bits. -/
theorem everyStepKeepsTheInvariant : Obligations.EveryStepKeepsTheInvariant := by
  unfold Obligations.EveryStepKeepsTheInvariant
  intro s t hinv h
  rcases step_next_cases h with rfl | ⟨q, rest, i, -, hexec⟩
  · exact hinv
  · have haccept : (s.accept q rest).Inv := hinv
    exact (exec_effect hexec).inv haccept

/-! ### Construction -/

theorem Memory.ofBytes_toList_within {n : Nat} (v : Vector Byte n) : Memory.within n (Memory.ofBytes v.toList) := by
  simpa using Memory.ofBytes_within v.toList

theorem State.constructed_inv (p : Params) (h : p.chr.length ≠ 0) : (State.constructed p).Inv :=
  ⟨rfl, Nat.one_le_iff_ne_zero.2 h,
    ⟨Memory.ofBytes_wf _, Memory.ofBytes_wf _, Memory.ofBytes_wf _, Memory.ofBytes_wf _⟩,
    Memory.ofBytes_toList_within _, Memory.ofBytes_toList_within _, Memory.ofBytes_toList_within _,
    Memory.ofBytes_within _⟩

/-- CTRL is 0 at first, so no NMI is requested (R280). -/
theorem State.constructed_nmiRequested (p : Params) : (State.constructed p).nmiRequested = false := by
  have hctrl : (State.constructed p).ctrl = 0x00#8 := rfl
  simp [State.nmiRequested_eq, hctrl]

/-- Settles O57: a state that construction answers is `State.constructed` of a non-empty pattern memory, its stores made
of lists of their size. -/
theorem everyConstructionMeetsInv : Obligations.EveryConstructionMeetsInv := by
  unfold Obligations.EveryConstructionMeetsInv
  intro p t h
  by_cases hempty : p.chr.length = 0
  · rw [construct_of_empty p hempty] at h; cases h
  · rw [construct_of_nonempty p hempty] at h; cases h
    exact ⟨State.constructed_inv p hempty, State.constructed_nmiRequested p⟩

theorem Memory.ofBytes_replicate_unlisted (n : Nat) : Memory.ofBytes (List.replicate n Memory.unlisted) = [] :=
  Memory.ofBytesFrom_replicate n 0

/-- The stores of the reset parameters hold unlisted bytes only, so no cell lists them (log 4). -/
theorem State.constructed_resetParams : State.constructed Config.resetParams = State.reset := by
  have hstore (n : Nat) : Memory.ofBytes (Vector.replicate n (0 : Byte)).toList = [] := by
    rw [Vector.toList_replicate]; exact Memory.ofBytes_replicate_unlisted n
  have hchr : Memory.ofBytes (List.replicate Config.resetChrSize 0) = [] := Memory.ofBytes_replicate_unlisted _
  have hlength : (List.replicate Config.resetChrSize (0 : Byte)).length = Config.resetChrSize := List.length_replicate
  simp only [State.constructed, Config.resetParams, hstore, hchr, hlength]
  rfl

/-- Settles O56: reset is the construction from its parameters, and so meets the invariant as each construction does. -/
theorem resetMeetsInv : Obligations.ResetMeetsInv := by
  have hconstruct : construct Config.resetParams = .next State.reset := by
    rw [construct_of_nonempty _ ?_, State.constructed_resetParams]
    exact List.length_replicate.trans_ne (by decide)
  obtain ⟨hinv, -⟩ := everyConstructionMeetsInv Config.resetParams State.reset hconstruct
  exact ⟨hinv, hconstruct⟩

end Sys2Proof.Machine
end

section
/-! SUPPORT. Proofs about pairs of latch writes: the worked examples of an address pair, the pair after R STATUS (R148), a
store inside a pair (R286), independent toggles (R289), and the pseudo-operations (R127). -/

namespace Sys2Proof.Machine

/-! ### Whole pairs -/

/-- The state with ADDR at `v`, the next W ADDR being a first byte: what an address pair leaves. -/
def State.pointAt (s : State) (v : PpuAddr) : State := { s with addr := v, addrW := .expectHigh }

/-- Two bytes as a 14-bit address, the first one masked (R162). -/
theorem toNat_slots (a b : Byte) : (a.extractLsb' 0 6 ++ b).toNat = (a.toNat * 256 + b.toNat) % 0x4000 := by
  rw [BitVec.toNat_append, ← Nat.shiftLeft_add_eq_or_of_lt b.isLt, Nat.shiftLeft_eq, BitVec.extractLsb'_toNat,
    Nat.shiftRight_zero]
  omega

theorem State.writeAddrLatch_pair {s : State} (h : s.addrW = .expectHigh) (a b : Byte) :
    (s.writeAddrLatch a).writeAddrLatch b = s.pointAt (a.extractLsb' 0 6 ++ b) := by
  rw [State.writeAddrLatch_of_expectHigh h, State.writeAddrLatch_of_expectLow rfl, addrHigh,
    BitVec.extractLsb'_append_eq_left, State.pointAt]

theorem State.writeScrollLatch_pair {s : State} (h : s.scrollW = .expectHigh) (a b : Byte) :
    (s.writeScrollLatch a).writeScrollLatch b = { s with scroll0 := a, scroll1 := b, scrollW := .expectHigh } := by
  rw [State.writeScrollLatch_of_expectHigh h, State.writeScrollLatch_of_expectLow rfl]

/-- A first byte after a pair keeps the pair's second byte. -/
theorem State.writeAddrLatch_pointAt (s : State) (a b c : Byte) :
    ((s.pointAt (a.extractLsb' 0 6 ++ b)).writeAddrLatch c).addr = c.extractLsb' 0 6 ++ b := by
  rw [State.writeAddrLatch_of_expectHigh rfl, State.pointAt, addrLow, BitVec.extractLsb'_append_eq_right]

/-- Settles O24: the pair fills both slots, and the third write is a first byte. -/
theorem addressPairCombines : Obligations.AddressPairCombines := by
  unfold Obligations.AddressPairCombines
  intro a b c s h
  refine ⟨s.pointAt (a.extractLsb' 0 6 ++ b), _, ?pair, rfl, toNat_slots a b, ?third⟩
  case pair => exact congrArg Host.Outcome.next (State.writeAddrLatch_pair h a b)
  case third => rw [s.writeAddrLatch_pointAt a b c, toNat_slots]

/-- The state R STATUS leaves (R145). -/
def State.afterStatusRead (s : State) : State := s.clearVblank.resetToggles.returns s.status

/-- Settles O26: R STATUS forces both toggles, so the two pairs start with their first bytes. -/
theorem statusReadRestartsThePairs : Obligations.StatusReadRestartsThePairs := by
  unfold Obligations.StatusReadRestartsThePairs
  intro x y p q s
  have haddr := State.writeAddrLatch_pair (s := s.afterStatusRead) rfl x y
  have hscroll := State.writeScrollLatch_pair (s := s.afterStatusRead.pointAt (x.extractLsb' 0 6 ++ y)) rfl p q
  rw [← haddr] at hscroll
  exact ⟨_, congrArg Host.Outcome.next hscroll, by rw [haddr]; exact toNat_slots x y, rfl, rfl, by rw [haddr]; rfl, rfl⟩

/-- The two latches share no element (R289). -/
theorem State.writeLatches_comm (s : State) (a b : Byte) :
    (s.writeAddrLatch a).writeScrollLatch b = (s.writeScrollLatch b).writeAddrLatch a := by
  simp only [State.writeAddrLatch, State.writeScrollLatch]
  cases s.addrW <;> cases s.scrollW <;> rfl

/-- Settles O27: the writes of the two latches commute. -/
theorem independentToggles : Obligations.IndependentToggles := fun a b s =>
  ⟨_, rfl, congrArg Host.Outcome.next (s.writeLatches_comm a b).symm⟩

/-! ### W DATA inside a pair -/

/-- A W DATA that completes advances ADDR by the step, and the byte it stored is read back. -/
theorem execWData_next {d : Byte} {s t : State} (h : execWData d s = .next t) :
    t.addr = s.addr + s.incrementStep ∧ ∀ pl, s.storePlace s.addr = some pl → s.Canonical → t.readPlace pl = d := by
  rcases execWData_cases d s with ⟨hpl, e⟩ | ⟨-, -, e⟩ | ⟨hpl, -, e⟩ <;> cases e.symm.trans h
  · exact ⟨rfl, fun pl hstore => by rw [hpl] at hstore; cases hstore⟩
  · refine ⟨by rw [State.incrementAddr_addr, State.writePlace_addr], fun pl hstore hcan => ?_⟩
    cases hpl.symm.trans hstore
    rw [State.incrementAddr_readPlace, s.readPlace_writePlace_same _ d hcan]

/-- Settles O28: the first write leaves the toggle at EXPECT_LOW, which the W DATA keeps for the second one. -/
theorem halfWrittenAddress : Obligations.HalfWrittenAddress := by
  unfold Obligations.HalfWrittenAddress
  intro a d b s t u h ht hu
  have hhalf : s.writeAddrLatch a = t := Host.Outcome.next.inj ht
  rw [State.writeAddrLatch_of_expectHigh h] at hhalf
  subst hhalf
  obtain ⟨haddr, hstored⟩ := execWData_next hu
  obtain ⟨htoggle, -⟩ := execWData_toggles hu
  refine ⟨toNat_slots a (addrLow s.addr), haddr, hstored, u.writeAddrLatch b, rfl, ?_⟩
  rw [State.writeAddrLatch_of_expectLow htoggle]
  exact ⟨rfl, BitVec.extractLsb'_append_eq_left, BitVec.extractLsb'_append_eq_right⟩

/-! ### The pseudo-operations -/

/-- The two operands SETADDR writes are the slots of its address (R127). -/
theorem highByteOf_append_addrLow (v : PpuAddr) : (highByteOf v).extractLsb' 0 6 ++ addrLow v = v := by
  have hhigh : (highByteOf v).extractLsb' 0 6 = addrHigh v := by
    apply BitVec.eq_of_toNat_eq
    simp only [highByteOf, addrHigh, BitVec.extractLsb'_toNat, BitVec.toNat_setWidth, BitVec.toNat_ushiftRight,
      Nat.shiftRight_zero]
    omega
  rw [hhigh, addrHigh_append_addrLow]

theorem State.writeAddrLatch_setAddr {s : State} (h : s.addrW = .expectHigh) (v : PpuAddr) :
    (s.writeAddrLatch (highByteOf v)).writeAddrLatch (addrLow v) = s.pointAt v := by
  rw [State.writeAddrLatch_pair h, highByteOf_append_addrLow]

/-- The state SETADDR leaves: R STATUS, then ADDR at `v` (R127). -/
def State.seek (s : State) (v : PpuAddr) : State := s.afterStatusRead.pointAt v

theorem execAll_setAddr (v : PpuAddr) (s : State) : execAll (expand (.setAddr v)) s = .next (s.seek v) :=
  congrArg Host.Outcome.next (State.writeAddrLatch_setAddr (s := s.afterStatusRead) rfl v)

theorem execAll_singleton (i : Instr) (s : State) : execAll [i] s = exec i s := by
  rw [execAll]; cases exec i s <;> rfl

/-- Settles O29: each expansion runs to the state its note names, the pairs after R STATUS by the rules of whole pairs. -/
theorem pseudoOperationsExpand : Obligations.PseudoOperationsExpand := by
  unfold Obligations.PseudoOperationsExpand
  intro v a b s
  have hscroll := State.writeScrollLatch_pair (s := s.afterStatusRead) rfl a b
  exact ⟨⟨s.afterStatusRead, rfl, rfl, rfl, s.clearVblank_getLsbD 7⟩, ⟨s.seek v, execAll_setAddr v s, rfl, rfl⟩,
    fun h => congrArg Host.Outcome.next (State.writeAddrLatch_setAddr h v),
    ⟨_, congrArg Host.Outcome.next hscroll, rfl, rfl, rfl⟩,
    fun hin hbelow => ⟨_, (execAll_singleton _ s).trans (execRData_of_buffered hbelow hin), rfl, rfl⟩⟩

end Sys2Proof.Machine
end

section
/-! SUPPORT. Proofs about the mirror router's closed form (R84) and the addresses that reach a physical offset (R86). -/

namespace Sys2Proof.Machine

/-- The table of R83 is one bit of the quadrant (R84). -/
theorem physicalTable_eq_bit (q : BitVec 2) :
    physicalTable .horizontal q = (q.getLsbD 1).toNat ∧ physicalTable .vertical q = (q.getLsbD 0).toNat := by
  revert q; decide

/-- Settles O32: the quadrant's two bits are bits 11 and 10 of the address. -/
theorem mirrorClosedForm : Obligations.MirrorClosedForm := by
  unfold Obligations.MirrorClosedForm
  intro mode a _ _
  obtain ⟨hhor, hver⟩ := physicalTable_eq_bit (a.extractLsb' 10 2)
  rw [mirrorDecode_toNat]
  cases mode with
  | horizontal => rw [hhor, BitVec.getLsbD_extractLsb']; rfl
  | vertical => rw [hver, BitVec.getLsbD_extractLsb']; rfl

/-- The address of offset `o` in quadrant `q` (R82). -/
def quadrantAddr (q : Fin 4) (o : Nat) : PpuAddr := BitVec.ofNat 14 (0x2000 + q.val * 0x400 + o)

theorem quadrantAddr_toNat (q : Fin 4) {o : Nat} (ho : o < 0x400) :
    (quadrantAddr q o).toNat = 0x2000 + q.val * 0x400 + o := by
  have hq := q.isLt
  rw [quadrantAddr, BitVec.toNat_ofNat, Nat.mod_eq_of_lt (by omega)]

/-- Two quadrants share each physical table under either mode (R83). -/
theorem exists_quadrants (mode : MirrorMode) (t : Fin 2) : ∃ q q' : Fin 4, q ≠ q' ∧
    ∀ o, o < 0x400 → (mirrorDecode mode (quadrantAddr q o)).toNat = o + 0x400 * t.val ∧
      (mirrorDecode mode (quadrantAddr q' o)).toNat = o + 0x400 * t.val := by
  have htable (q : Fin 4) {o : Nat} (ho : o < 0x400) :=
    quadrantsGoToPhysicalTables (quadrantAddr q o) o q ho (.inl (quadrantAddr_toNat q ho))
  cases mode with
  | horizontal =>
    match t with
    | 0 => exact ⟨0, 1, by decide, fun o ho => ⟨(htable 0 ho).1, (htable 1 ho).1⟩⟩
    | 1 => exact ⟨2, 3, by decide, fun o ho => ⟨(htable 2 ho).1, (htable 3 ho).1⟩⟩
  | vertical =>
    match t with
    | 0 => exact ⟨0, 2, by decide, fun o ho => ⟨(htable 0 ho).2, (htable 2 ho).2⟩⟩
    | 1 => exact ⟨1, 3, by decide, fun o ho => ⟨(htable 1 ho).2, (htable 3 ho).2⟩⟩

/-- Settles O34: an offset lies in one physical table, which two quadrants share; a palette address selects PAL. -/
theorem physicalOffsetsAreReachedTwice : Obligations.PhysicalOffsetsAreReachedTwice := by
  unfold Obligations.PhysicalOffsetsAreReachedTwice
  refine ⟨fun mode p => ?twice, fun s a k ha => by rw [s.place_of_palette ha]; exact Place.noConfusion⟩
  have hp := p.isLt
  have ho : p.toNat % 0x400 < 0x400 := Nat.mod_lt _ (by decide)
  have ht : p.toNat / 0x400 < 2 := by omega
  obtain ⟨q, q', hne, hdecode⟩ := exists_quadrants mode ⟨p.toNat / 0x400, ht⟩
  obtain ⟨hq, hq'⟩ := hdecode _ ho
  have hsum : p.toNat % 0x400 + 0x400 * (p.toNat / 0x400) = p.toNat := Nat.mod_add_div _ _
  have haddr := quadrantAddr_toNat q ho
  have haddr' := quadrantAddr_toNat q' ho
  have hval : q.val ≠ q'.val := fun e => hne (Fin.ext e)
  refine ⟨quadrantAddr q (p.toNat % 0x400), quadrantAddr q' (p.toNat % 0x400), fun e => ?_, by omega, by omega, by omega,
    by omega, BitVec.eq_of_toNat_eq (hq.trans hsum), BitVec.eq_of_toNat_eq (hq'.trans hsum)⟩
  have := congrArg BitVec.toNat e
  omega

end Sys2Proof.Machine
end

section
/-! SUPPORT. Proofs about runs through the data port: buffered reads in a row (R195), the read buffer after a store (R284),
and the bytes the queries show beside it (R230, R231). -/

namespace Sys2Proof.Machine

/-! ### A run of buffered reads -/

/-- The state a buffered read answers: the old RDBUF returned, the byte at ADDR buffered, ADDR advanced (R193). -/
def State.readBuffered (s : State) : State :=
  ((s.setRdbuf (s.readPlace (s.place s.addr))).incrementAddr s.incrementStep).returns s.rdbuf

theorem exec_rData_of_buffered {s : State} (hbelow : s.addr.toNat < 0x3F00) (hin : s.outOfRange s.addr = false) :
    exec .rData s = .next s.readBuffered := execRData_of_buffered hbelow hin

/-- ADDR after `k` data-port operations that complete (R191). -/
def State.addrAfter (s : State) (k : Nat) : PpuAddr := s.addr + BitVec.ofNat 14 k * s.incrementStep

theorem State.addrAfter_zero (s : State) : s.addrAfter 0 = s.addr := by
  simp [State.addrAfter]

theorem State.addrAfter_succ (s : State) (k : Nat) : s.addrAfter (k + 1) = s.addrAfter k + s.incrementStep := by
  rw [State.addrAfter, State.addrAfter, BitVec.ofNat_add, BitVec.add_mul, ← BitVec.add_assoc]
  congr 1
  exact BitVec.one_mul _

/-- The byte the `k`-th read of a run loads into RDBUF. -/
def State.byteAfter (s : State) (k : Nat) : Byte := s.readPlace (s.place (s.addrAfter k))

/-- The state after `n + 1` buffered reads (R195). -/
def State.bufferedRun (s : State) (n : Nat) : State :=
  { s with
    result := some (match n with | 0 => s.rdbuf | m + 1 => s.byteAfter m)
    rdbuf := s.byteAfter n
    addr := s.addrAfter (n + 1) }

theorem State.readBuffered_eq_bufferedRun (s : State) : s.readBuffered = s.bufferedRun 0 := by
  rw [State.bufferedRun, State.byteAfter, s.addrAfter_succ, s.addrAfter_zero]
  rfl

/-- One more read: the byte in RDBUF is returned, and the next one takes its place. -/
theorem State.bufferedRun_readBuffered (s : State) (n : Nat) : (s.bufferedRun n).readBuffered = s.bufferedRun (n + 1) := by
  simp only [State.bufferedRun, s.addrAfter_succ (n + 1)]
  rfl

theorem execAll_rData_replicate {s : State} {n : Nat}
    (h : ∀ k, k ≤ n → (s.addrAfter k).toNat < 0x3F00 ∧ s.outOfRange (s.addrAfter k) = false) :
    execAll (List.replicate (n + 1) .rData) s = .next (s.bufferedRun n) := by
  induction n with
  | zero =>
    obtain ⟨hbelow, hin⟩ := h 0 (Nat.le_refl 0)
    rw [s.addrAfter_zero] at hbelow hin
    rw [← s.readBuffered_eq_bufferedRun]
    exact (execAll_singleton _ s).trans (exec_rData_of_buffered hbelow hin)
  | succ n ih =>
    obtain ⟨hbelow, hin⟩ := h (n + 1) (Nat.le_refl _)
    rw [List.replicate_succ', execAll_append_of_next (ih fun k hk => h k (by omega)), execAll_singleton,
      ← s.bufferedRun_readBuffered]
    exact exec_rData_of_buffered (s := s.bufferedRun n) hbelow hin

/-- Settles O42: the run leaves `State.bufferedRun`, by induction on its length. -/
theorem bufferedReadRun : Obligations.BufferedReadRun := by
  unfold Obligations.BufferedReadRun
  intro s n h
  refine ⟨s.bufferedRun n, execAll_rData_replicate h, ?_, rfl, rfl, rfl⟩
  cases n <;> rfl

/-! ### What an address selects -/

theorem State.place_congr {s t : State} (h : t.mirrorMode = s.mirrorMode) (a : PpuAddr) : t.place a = s.place a := by
  rw [State.place, h, State.place]

theorem State.outOfRange_congr {s t : State} (h : t.chrSize = s.chrSize) (a : PpuAddr) :
    t.outOfRange a = s.outOfRange a := by
  rw [State.outOfRange, h, State.outOfRange]

/-- A W DATA in range completes, leaves RDBUF and what an address selects, and its byte is read back where it stored. -/
theorem execWData_completes (d : Byte) {s : State} (hin : s.outOfRange s.addr = false) :
    ∃ t, exec (.wData d) s = .next t ∧ t.rdbuf = s.rdbuf ∧ (∀ a, t.outOfRange a = s.outOfRange a) ∧
      (∀ a, t.place a = s.place a) ∧ ∀ pl, s.storePlace s.addr = some pl → s.Canonical → t.readPlace pl = d := by
  obtain ⟨t, ht⟩ : ∃ t, exec (.wData d) s = .next t := by
    rcases execWData_cases d s with ⟨-, e⟩ | ⟨-, hout, -⟩ | ⟨-, -, e⟩
    · exact ⟨_, e⟩
    · rw [hin] at hout; cases hout
    · exact ⟨_, e⟩
  obtain ⟨-, -, -, -, -, -, -, -, hrdbuf, -⟩ := onlyTheMatrixWrites _ s t ht
  obtain ⟨hmode, -, hsize⟩ := exec_params ht
  obtain ⟨-, hstored⟩ := execWData_next ht
  exact ⟨t, ht, hrdbuf.resolve_right Instr.noConfusion, State.outOfRange_congr hsize, State.place_congr hmode, hstored⟩

/-- The two states have the same stores and the same parameters: what the operations that store nothing keep. -/
structure State.SameMemory (t s : State) : Prop where
  nt : t.nt = s.nt
  pal : t.pal = s.pal
  oam : t.oam = s.oam
  chr : t.chr = s.chr
  chrSize : t.chrSize = s.chrSize
  mirrorMode : t.mirrorMode = s.mirrorMode
  chrWritable : t.chrWritable = s.chrWritable

namespace State.SameMemory

theorem trans {u t s : State} (h : u.SameMemory t) (h' : t.SameMemory s) : u.SameMemory s :=
  ⟨h.nt.trans h'.nt, h.pal.trans h'.pal, h.oam.trans h'.oam, h.chr.trans h'.chr, h.chrSize.trans h'.chrSize,
    h.mirrorMode.trans h'.mirrorMode, h.chrWritable.trans h'.chrWritable⟩

variable {t s : State} (h : t.SameMemory s)
include h

theorem outOfRange (a : PpuAddr) : t.outOfRange a = s.outOfRange a := State.outOfRange_congr h.chrSize a

theorem place (a : PpuAddr) : t.place a = s.place a := State.place_congr h.mirrorMode a

theorem readPlace (pl : Place) : t.readPlace pl = s.readPlace pl := State.readPlace_congr h.nt h.pal h.oam h.chr pl

theorem storePlace (a : PpuAddr) : t.storePlace a = s.storePlace a := by
  rw [State.storePlace, h.chrWritable, h.place, State.storePlace]

theorem canonical (hcan : s.Canonical) : t.Canonical := by
  rwa [State.Canonical, h.nt, h.pal, h.oam, h.chr]

end State.SameMemory

theorem State.readBuffered_sameMemory (s : State) : s.readBuffered.SameMemory s := ⟨rfl, rfl, rfl, rfl, rfl, rfl, rfl⟩

theorem State.seek_sameMemory (s : State) (x : PpuAddr) : (s.seek x).SameMemory s := ⟨rfl, rfl, rfl, rfl, rfl, rfl, rfl⟩

/-! ### The read buffer after a store -/

/-- The state after SETADDR `x` and a buffered read: the old RDBUF returned, the byte at `x` buffered. -/
def State.readAt (s : State) (x : PpuAddr) : State := (s.seek x).readBuffered

theorem State.readAt_sameMemory (s : State) (x : PpuAddr) : (s.readAt x).SameMemory s :=
  (s.seek x).readBuffered_sameMemory.trans (s.seek_sameMemory x)

theorem State.readAt_result (s : State) (x : PpuAddr) : (s.readAt x).result = some s.rdbuf := rfl

theorem State.readAt_rdbuf (s : State) (x : PpuAddr) : (s.readAt x).rdbuf = s.readPlace (s.place x) := rfl

theorem execAll_setAddr_rData {s : State} {x : PpuAddr} (hbelow : x.toNat < 0x3F00) (hin : s.outOfRange x = false) :
    execAll (expand (.setAddr x) ++ [.rData]) s = .next (s.readAt x) := by
  rw [execAll_append_of_next (execAll_setAddr x s), execAll_singleton]
  exact exec_rData_of_buffered (s := s.seek x) hbelow hin

/-- Priming: the read of an address that follows a read of it. -/
theorem execAll_prime_then_read {s : State} {x : PpuAddr} (hbelow : x.toNat < 0x3F00) (hin : s.outOfRange x = false) :
    execAll (expand (.setAddr x) ++ expand .prime ++ expand (.setAddr x) ++ [.rData]) s = .next ((s.readAt x).readAt x) := by
  have hin' : (s.readAt x).outOfRange x = false := ((s.readAt_sameMemory x).outOfRange x).trans hin
  rw [List.append_assoc, expand.eq_def .prime, execAll_append_of_next (execAll_setAddr_rData hbelow hin),
    execAll_setAddr_rData hbelow hin']

/-- Settles O43: the store leaves RDBUF, so the next read returns the byte loaded before it; priming loads the byte
stored. -/
theorem readBufferIsNotCoherent : Obligations.ReadBufferIsNotCoherent := by
  unfold Obligations.ReadBufferIsNotCoherent
  intro s x d hbelow hin haddr
  have hload : execAll [.rData] s = .next s.readBuffered :=
    (execAll_singleton _ s).trans (exec_rData_of_buffered (haddr ▸ hbelow) (haddr ▸ hin))
  have hsame : (s.readBuffered.seek x).SameMemory s := (State.seek_sameMemory _ x).trans s.readBuffered_sameMemory
  obtain ⟨t, hwrite, hrdbuf, hrange, hplace, hstored⟩ :=
    execWData_completes d (s := s.readBuffered.seek x) ((hsame.outOfRange x).trans hin)
  have hstore : execAll [.wData d] (s.readBuffered.seek x) = .next t := (execAll_singleton _ _).trans hwrite
  have hin' : t.outOfRange x = false := by rw [hrange, hsame.outOfRange, hin]
  refine ⟨t.readAt x, ?run, ?stale, fun hcan hpl u hu => ?fresh⟩
  case run =>
    simp only [List.append_assoc]
    rw [execAll_append_of_next hload, execAll_append_of_next (execAll_setAddr x _), execAll_append_of_next hstore,
      execAll_setAddr_rData hbelow hin']
  case stale =>
    have hbyte : t.rdbuf = s.readPlace (s.place s.addr) := hrdbuf
    rw [t.readAt_result, hbyte, haddr]
  case fresh =>
    have hread := t.readAt_sameMemory x
    have hbyte : t.readPlace (t.place x) = d := by
      rw [hplace, hsame.place]
      exact hstored _ ((hsame.storePlace x).trans hpl) (hsame.canonical hcan)
    rw [execAll_prime_then_read hbelow ((hread.outOfRange x).trans hin')] at hu
    rw [← Host.Outcome.next.inj hu, State.readAt_result, State.readAt_rdbuf, hread.readPlace, hread.place, hbyte]

/-! ### The queries -/

/-- A query that shows a byte at an address shows the byte a buffered read would load (R231). -/
theorem State.readPlace_of_peek {s : State} {a : PpuAddr} {v : Byte}
    (h : s.peekNametable a = some v ∨ s.peekPattern a = some v) : a.toNat < 0x3F00 ∧ s.readPlace (s.place a) = v := by
  rcases h with h | h
  · by_cases hnt : 0x2000 ≤ a.toNat ∧ a.toNat ≤ 0x3EFF
    · rw [s.peekNametable_of_nametable hnt] at h
      cases h
      exact ⟨by omega, by rw [s.place_of_nametable hnt]; rfl⟩
    · rw [State.peekNametable, if_neg fun hreg => hnt ((regionOf_nametable_iff a).1 hreg)] at h
      cases h
  · by_cases hpat : a.toNat ≤ 0x1FFF ∧ a.toNat < s.chrSize
    · rw [s.peekPattern_of_pattern hpat.1, if_pos hpat.2] at h
      cases h
      exact ⟨by omega, by rw [s.place_of_pattern hpat.1]; rfl⟩
    · rw [State.peekPattern, if_neg fun hreg => hpat ⟨(regionOf_pattern_iff a).1 hreg.1, hreg.2⟩] at h
      cases h

/-- Outside pattern memory the byte W DATA stored is read at its address. -/
theorem execWData_readPlace {d : Byte} {s t : State} (hcan : s.Canonical) (hpat : ¬s.addr.toNat ≤ 0x1FFF)
    (h : exec (.wData d) s = .next t) : t.readPlace (t.place s.addr) = d := by
  obtain ⟨hmode, -, -⟩ := exec_params h
  obtain ⟨-, hstored⟩ := execWData_next h
  rw [State.place_congr hmode]
  exact hstored _ (by rw [s.storePlace_eq, if_neg fun hro => hpat hro.1]) hcan

/-- Settles O44: the queries show the place the data port reads and W DATA writes. -/
theorem queriesShowTheStores : Obligations.QueriesShowTheStores := by
  unfold Obligations.QueriesShowTheStores
  refine fun s t v d => ⟨fun hpeek hread => ?buffered, fun hcan hreg hwrite => ?nametable, fun hcan hreg hwrite => ?palette⟩
  case buffered =>
    obtain ⟨hbelow, hbyte⟩ := State.readPlace_of_peek hpeek
    cases exec_effect hread with
    | rDataPalette hpal => omega
    | rDataBuffered _ _ => exact hbyte
  case nametable =>
    have hnt := (regionOf_nametable_iff s.addr).1 hreg
    rw [State.peekNametable, if_pos hreg, execWData_readPlace hcan (by omega) hwrite]
  case palette =>
    have hpal := (regionOf_palette_iff s.addr).1 hreg
    have hbyte := execWData_readPlace hcan (by omega) hwrite
    rw [t.place_of_palette_lowBits hpal] at hbyte
    exact hbyte

end Sys2Proof.Machine
end

section
/-! SUPPORT. Proofs about the pending list: an operation sees nothing of what is issued behind it (R94). -/

namespace Sys2Proof.Machine

/-! ### The shared operations commute with issuing one more operation -/

theorem State.memRead_issue (s : State) (q : Issue) (a : PpuAddr) : (s.issue q).memRead a = s.memRead a := rfl

theorem State.writePlace_issue (s : State) (q : Issue) (pl : Place) (v : Byte) :
    (s.issue q).writePlace pl v = (s.writePlace pl v).issue q := by cases pl <;> rfl

theorem State.memWrite_issue (s : State) (q : Issue) (a : PpuAddr) (v : Byte) :
    (s.issue q).memWrite a v = (s.memWrite a v).map fun t => t.issue q := by
  have hstore : (s.issue q).storePlace a = s.storePlace a := rfl
  have hrange : (s.issue q).outOfRange a = s.outOfRange a := rfl
  simp only [State.memWrite, hstore, hrange, State.writePlace_issue]
  cases s.storePlace a with
  | none => rfl
  | some pl => cases s.outOfRange a <;> rfl

theorem State.writeAddrLatch_issue (s : State) (q : Issue) (d : Byte) :
    (s.issue q).writeAddrLatch d = (s.writeAddrLatch d).issue q := by
  have htoggle : (s.issue q).addrW = s.addrW := rfl
  simp only [State.writeAddrLatch, htoggle]
  cases s.addrW <;> rfl

theorem State.writeScrollLatch_issue (s : State) (q : Issue) (d : Byte) :
    (s.issue q).writeScrollLatch d = (s.writeScrollLatch d).issue q := by
  have htoggle : (s.issue q).scrollW = s.scrollW := rfl
  simp only [State.writeScrollLatch, htoggle]
  cases s.scrollW <;> rfl

theorem State.copyPage_issue (s : State) (q : Issue) (p : Byte) : (s.issue q).copyPage p = (s.copyPage p).issue q := by
  have hbytes : (s.issue q).pageByte p = s.pageByte p := State.pageByte_congr rfl rfl p
  rw [State.copyPage, hbytes]
  simp only [State.copyPage, State.issue]

/-! ### No operation reads the pending list -/

theorem execWData_issue (d : Byte) (s : State) (q : Issue) :
    execWData d (s.issue q) = mapNext (fun t => t.issue q) (execWData d s) := by
  have haddr : (s.issue q).addr = s.addr := rfl
  simp only [execWData, haddr, State.memWrite_issue]
  cases s.memWrite s.addr d <;> rfl

theorem execRData_issue (s : State) (q : Issue) :
    execRData (s.issue q) = mapNext (fun t => t.issue q) (execRData s) := by
  have haddr : (s.issue q).addr = s.addr := rfl
  simp only [execRData, haddr, State.memRead_issue]
  cases s.memRead s.addr with
  | error k => rfl
  | ok v => by_cases hpal : 0x3F00 ≤ s.addr.toNat <;> simp only [hpal, if_true, if_false] <;> rfl

theorem execOamDma_issue (p : Byte) (s : State) (q : Issue) :
    execOamDma p (s.issue q) = mapNext (fun t => t.issue q) (execOamDma p s) := by
  have hsupplier : (s.issue q).supplier = s.supplier := rfl
  simp only [execOamDma, hsupplier, State.copyPage_issue]
  cases s.supplier.reentrant <;> rfl

theorem execEnvStat_issue (f : Byte) (s : State) (q : Issue) :
    execEnvStat f (s.issue q) = mapNext (fun t => t.issue q) (execEnvStat f s) := by
  unfold execEnvStat; split <;> rfl

theorem exec_issue (i : Instr) (s : State) (q : Issue) :
    exec i (s.issue q) = mapNext (fun t => t.issue q) (exec i s) := by
  cases i with
  | wScroll d => exact congrArg Host.Outcome.next (s.writeScrollLatch_issue q d)
  | wAddr d => exact congrArg Host.Outcome.next (s.writeAddrLatch_issue q d)
  | wData d => exact execWData_issue d s q
  | rData => exact execRData_issue s q
  | oamDma p => exact execOamDma_issue p s q
  | envStat f => exact execEnvStat_issue f s q
  | wCtrl | wMask | wStatus | wOamAddr | wOamData | rStatus | rOamData => rfl

/-! ### A step -/

/-- Settles O12: a step with something issued takes the list's head, and what it runs commutes with issuing. -/
theorem laterOperationsAreUnseen : Obligations.LaterOperationsAreUnseen := by
  unfold Obligations.LaterOperationsAreUnseen
  intro s q hpending
  obtain ⟨q₀, rest, hp⟩ := List.exists_cons_of_ne_nil hpending
  have hp' : (s.issue q).pending = q₀ :: (rest ++ [q]) := by rw [State.issue, hp, List.cons_append]
  cases hf : s.faultMark with
  | some k =>
    have hf' : (s.issue q).faultMark = some k := hf
    rw [step_of_faultMark hf, step_of_faultMark hf', mapNext]
  | none =>
    have hf' : (s.issue q).faultMark = none := hf
    cases hr : s.refusedMark with
    | some k =>
      have hr' : (s.issue q).refusedMark = some k := hr
      rw [step_of_refusedMark hf hr, step_of_refusedMark hf' hr', mapNext]
    | none =>
      have hr' : (s.issue q).refusedMark = none := hr
      cases hd : decode q₀.word with
      | error e =>
        obtain ⟨w⟩ := e
        rw [step_of_reserved hf hr hp hd, step_of_reserved hf' hr' hp' hd, mapNext]
      | ok i =>
        rw [step_of_decode hf hr hp hd, step_of_decode hf' hr' hp' hd, ← exec_issue]
        rfl

end Sys2Proof.Machine
end

section
/-! SUPPORT. Proofs about the text of an operation (R126): a line falls into its words again, and a byte is read back from
its two digits. -/

namespace Sys2Proof.Machine

/-! ### The words of a line -/

/-- A character that neither ends a word nor stands alone. -/
def isPlain (c : Char) : Bool := !(c == ';' || c == ' ' || c == ',' || c == '#')

theorem wordsOf_cons_plain {c : Char} (h : isPlain c = true) (cur cs : Text) :
    wordsOf cur (c :: cs) = wordsOf (c :: cur) cs := by
  simp only [isPlain, Bool.not_eq_true', Bool.or_eq_false_iff, beq_eq_false_iff_ne] at h
  obtain ⟨⟨⟨hcomment, hspace⟩, hcomma⟩, hhash⟩ := h
  rw [wordsOf, if_neg hcomment, if_neg hspace, if_neg (by simp [hcomma, hhash])]

/-- Plain characters are gathered into the current word. -/
theorem wordsOf_append_plain {t : Text} (h : t.all isPlain = true) (cur cs : Text) :
    wordsOf cur (t ++ cs) = wordsOf (t.reverse ++ cur) cs := by
  induction t generalizing cur with
  | nil => rfl
  | cons c t ih =>
    obtain ⟨hc, ht⟩ := Bool.and_eq_true_iff.1 h
    rw [List.cons_append, wordsOf_cons_plain hc, ih ht, List.reverse_cons, List.append_assoc]
    rfl

theorem finishWord_reverse {t : Text} (h : t ≠ []) : finishWord t.reverse = [t] := by
  rw [finishWord, if_neg (by simpa using h), List.reverse_reverse]

/-- The last word of a line. -/
theorem wordsOf_plain {t : Text} (h : t.all isPlain = true) (hne : t ≠ []) : wordsOf [] t = [t] := by
  have hgather := wordsOf_append_plain h [] []
  rw [List.append_nil, List.append_nil] at hgather
  rw [hgather, wordsOf, finishWord_reverse hne]

/-- A word that a space ends. -/
theorem wordsOf_plain_space {t : Text} (h : t.all isPlain = true) (hne : t ≠ []) (cs : Text) :
    wordsOf [] (t ++ ' ' :: cs) = t :: wordsOf [] cs := by
  rw [wordsOf_append_plain h, List.append_nil, wordsOf, if_neg (by decide), if_pos rfl, finishWord_reverse hne]
  rfl

/-- A word that a comma or a hash ends. -/
theorem wordsOf_plain_mark {t : Text} (h : t.all isPlain = true) (hne : t ≠ []) {m : Char} (hm : m = ',' ∨ m = '#')
    (cs : Text) : wordsOf [] (t ++ m :: cs) = t :: [m] :: wordsOf [] cs := by
  have hcomment : m ≠ ';' := by rcases hm with rfl | rfl <;> decide
  have hspace : m ≠ ' ' := by rcases hm with rfl | rfl <;> decide
  rw [wordsOf_append_plain h, List.append_nil, wordsOf, if_neg hcomment, if_neg hspace, if_pos hm, finishWord_reverse hne]
  rfl

theorem wordsOf_hash (cs : Text) : wordsOf [] (' ' :: '#' :: cs) = ['#'] :: wordsOf [] cs := rfl

/-! ### A byte as two digits -/

/-- Each digit has its value, and is plain. -/
theorem hexDigit_spec (n : Fin 16) : digitValue (hexDigit n.val) = some n.val ∧ isPlain (hexDigit n.val) = true := by
  revert n; decide

theorem hexByte_plain (d : Byte) : (hexByte d).all isPlain = true := by
  have hd := d.isLt
  obtain ⟨-, hhigh⟩ := hexDigit_spec ⟨d.toNat / 16, by omega⟩
  obtain ⟨-, hlow⟩ := hexDigit_spec ⟨d.toNat % 16, by omega⟩
  have hzero : isPlain '0' = true := rfl
  have hx : isPlain 'x' = true := rfl
  simp only [hexByte, List.all_cons, List.all_nil, hzero, hx, hhigh, hlow, Bool.and_true]

theorem hexByte_ne_nil (d : Byte) : hexByte d ≠ [] := List.cons_ne_nil _ _

theorem readByte_hexByte (d : Byte) : readByte (hexByte d) = some d := by
  have hd := d.isLt
  obtain ⟨hhigh, -⟩ := hexDigit_spec ⟨d.toNat / 16, by omega⟩
  obtain ⟨hlow, -⟩ := hexDigit_spec ⟨d.toNat % 16, by omega⟩
  have hvalue : digitsValue 16 0 [hexDigit (d.toNat / 16), hexDigit (d.toNat % 16)] = some d.toNat := by
    simp only [digitsValue, hhigh, hlow]
    rw [if_pos (by omega), if_pos (by omega)]
    congr 1
    omega
  have hnumber : readNumber 256 (hexByte d) = some d.toNat := by
    simp only [readNumber, hexByte, true_and, if_true, List.isEmpty_cons, Bool.false_eq_true, if_false, hvalue, hd]
  rw [readByte, hnumber, Option.map_some, BitVec.ofNat_toNat, BitVec.setWidth_eq]

/-! ### The operation a line writes -/

theorem portName_plain (sel : Fin 8) : (portName sel.val).all isPlain = true ∧ portName sel.val ≠ [] := by
  revert sel; decide

theorem wordsOf_writeText (sel : Fin 8) (d : Byte) :
    wordsOf [] (writeText sel.val d) = [['W'], portName sel.val, [','], ['#'], hexByte d] := by
  obtain ⟨hplain, hne⟩ := portName_plain sel
  calc
    wordsOf [] (writeText sel.val d)
      = wordsOf [] (['W'] ++ ' ' :: (portName sel.val ++ ',' :: ' ' :: '#' :: hexByte d)) := by
        simp only [writeText, List.append_assoc, List.cons_append, List.nil_append]
    _ = ['W'] :: portName sel.val :: [','] :: ['#'] :: wordsOf [] (hexByte d) := by
        rw [wordsOf_plain_space (by decide) (by decide), wordsOf_plain_mark hplain hne (.inl rfl), wordsOf_hash]
    _ = _ := by rw [wordsOf_plain (hexByte_plain d) (hexByte_ne_nil d)]

theorem wordsOf_readText (sel : Fin 8) : wordsOf [] (readText sel.val) = [['R'], portName sel.val] := by
  obtain ⟨hplain, hne⟩ := portName_plain sel
  exact (wordsOf_plain_space (t := ['R']) (by decide) (by decide) _).trans (congrArg _ (wordsOf_plain hplain hne))

/-- The line of OAMDMA and ENVSTAT, which name no port. -/
theorem wordsOf_named {name : Text} (h : name.all isPlain = true) (hne : name ≠ []) (d : Byte) :
    wordsOf [] (name ++ [' ', '#'] ++ hexByte d) = [name, ['#'], hexByte d] := by
  rw [List.append_assoc, List.cons_append, wordsOf_plain_space h hne, ← wordsOf_plain (hexByte_plain d) (hexByte_ne_nil d)]
  rfl

theorem instrOfText_writeText (sel : Fin 8) (d : Byte) {make : Byte → Instr} (h : writeNamed (portName sel.val) = some make) :
    instrOfText (writeText sel.val d) = some (make d) := by
  rw [instrOfText, wordsOf_writeText]
  simp only [instrOfWords, true_and, if_true, h, readByte_hexByte]

theorem instrOfText_readText (sel : Fin 8) : instrOfText (readText sel.val) = readNamed (portName sel.val) := by
  rw [instrOfText, wordsOf_readText, instrOfWords, if_pos rfl]

/-- Settles O8: the words of the line name the port and the byte of the operation. -/
theorem textReadsBack : Obligations.TextReadsBack := by
  unfold Obligations.TextReadsBack
  intro i
  cases i with
  | wCtrl d => exact instrOfText_writeText 0 d rfl
  | wMask d => exact instrOfText_writeText 1 d rfl
  | wStatus d => exact instrOfText_writeText 2 d rfl
  | wOamAddr d => exact instrOfText_writeText 3 d rfl
  | wOamData d => exact instrOfText_writeText 4 d rfl
  | wScroll d => exact instrOfText_writeText 5 d rfl
  | wAddr d => exact instrOfText_writeText 6 d rfl
  | wData d => exact instrOfText_writeText 7 d rfl
  | rStatus => exact instrOfText_readText 2
  | rOamData => exact instrOfText_readText 4
  | rData => exact instrOfText_readText 7
  | oamDma p => rw [instrOfText, textOf, wordsOf_named (by decide) (by decide)]; simp [instrOfWords, readByte_hexByte]
  | envStat f =>
    have hname : envName ≠ dmaName := by decide
    rw [instrOfText, textOf, wordsOf_named (by decide) (by decide)]
    simp [instrOfWords, readByte_hexByte, hname]

end Sys2Proof.Machine
end
